-- ==== Sys2Proof/Word.lean ====
section
/-! DEFINITION. The command word (spec 30_encoding R60): the one unit the host hands to the block. -/

namespace Sys2Proof

/-- A command word `W`: 64 bits, bit 63 the most significant, bit 0 the least (R9, R60). -/
abbrev Word := BitVec 64

end Sys2Proof
end

