-- ==== Sys2Proof/Syntax.lean ====
section
/-! DEFINITION. The enumerations of the block's registers (spec 10_state R24, R25, R34, R36) and the fourteen
commands with their operands as the encoding carries them (spec 30_encoding R63, R66). -/

namespace Sys2Proof

/-- The waveform register `shape` (R24). -/
inductive Shape where
  | square
  | triangle
  deriving DecidableEq, Repr

/-- The register `range` (R25): the control range the host maps a knob position in. -/
inductive FreqRange where
  | low
  | high
  deriving DecidableEq, Repr

/-- The register `trigSel` (R36): what advances the sequencer besides MSTEP. -/
inductive TrigSel where
  | internal
  | externalGate
  deriving DecidableEq, Repr

/-- The seven implemented stepping algorithms (R34, R120), in the order of their ordinals 0 to 6. Ordinal 7, the
reserved slot, is no member: SETSEQ rejects it and the register never holds it (R132, U2). -/
inductive SeqKind where
  | up
  | down
  | upDown
  | random
  | p2m1
  | p1m2
  | m3p5
  deriving DecidableEq, Repr

/-- The fourteen commands (R66). A numeric operand is the unsigned integer of its field (R63), before the field's
fixed-point scaling; a one-bit operand is a Bool, `true` for 1. -/
inductive Instr where
  /-- GEN (R83): sample rate in whole hertz, number of samples. -/
  | gen (sr n : Nat)
  /-- SETFREQ (R84): hertz as `q / 2^32`. -/
  | setfreq (q : Nat)
  /-- SETDUTY (R85): duty cycle as `q / 2^32`. -/
  | setduty (q : Nat)
  /-- SETSHAPE (R86): 0 Square, 1 Triangle. -/
  | setshape (sel : Bool)
  /-- SETPHASE (R87): phase as `q / 2^32`. -/
  | setphase (q : Nat)
  /-- SETRANGE (R88): 0 Low, 1 High. -/
  | setrange (sel : Bool)
  /-- PULSE (R103): timestamp in seconds as `q / 2^16`. -/
  | pulse (q : Nat)
  /-- SETRATIO (R105): ratio index, clamped by the command. -/
  | setratio (k : Nat)
  /-- SETXCLK (R106): 0 free-running, 1 external-clock mode. -/
  | setxclk (sel : Bool)
  /-- GATE (R129). -/
  | gate
  /-- MSTEP (R130). -/
  | mstep
  /-- SETSKIP (R131): step index and skip flag. -/
  | setskip (k : Nat) (flag : Bool)
  /-- SETSEQ (R132): ordinal of a stepping algorithm. -/
  | setseq (k : Nat)
  /-- SETTRIG (R133): 0 Internal, 1 ExternalGate. -/
  | settrig (sel : Bool)
  deriving DecidableEq, Repr

end Sys2Proof
end

