-- ==== Sys2Proof/WellFormed.lean ====
section
/-! DEFINITION. Which commands a word can express: every operand fits its field (spec 30_encoding R61, R63). An operand
the document calls out of bounds (ratio index 200, skip index 9, `sr = 0`) is well formed: its own rule clamps or
rejects it (R68). -/

namespace Sys2Proof

/-- Every operand of the command fits its field (R63). -/
def Instr.fits : Instr → Bool
  | .gen sr n => decide (sr < 2 ^ 32) && decide (n < 2 ^ 16)
  | .setfreq q => decide (q < 2 ^ 48)
  | .setduty q => decide (q < 2 ^ 48)
  | .setshape _ => true
  | .setphase q => decide (q < 2 ^ 48)
  | .setrange _ => true
  | .pulse q => decide (q < 2 ^ 48)
  | .setratio k => decide (k < 2 ^ 8)
  | .setxclk _ => true
  | .gate => true
  | .mstep => true
  | .setskip k _ => decide (k < 2 ^ 8)
  | .setseq k => decide (k < 2 ^ 8)
  | .settrig _ => true

/-- A command the encoding can express. -/
abbrev Instr.WellFormed (i : Instr) : Prop := i.fits = true

end Sys2Proof
end

