-- ==== Sys2Proof/Decode.lean ====
section
/-! DEFINITION. The decoder and the encoder of command words (spec 30_encoding R60 to R67). Decoding reads no state,
answers on every word, and rejects a reserved word by name. -/

namespace Sys2Proof

/-- `W[hi:lo]`, the unsigned integer formed by bits hi down to lo inclusive (R9). -/
def bits (w : Word) (hi lo : Nat) : Nat := w.toNat / 2 ^ lo % 2 ^ (hi + 1 - lo)

/-- `W[i]`, one bit (R9). -/
def bit (w : Word) (i : Nat) : Bool := bits w i i = 1

/-- The opcode map's fourteen rows (R66). -/
inductive Opcode where
  | gen | setfreq | setduty | setshape | setphase | setrange
  | pulse | setratio | setxclk
  | gate | mstep | setskip | setseq | settrig
  deriving DecidableEq, Repr

/-- The six formats (R61), named by their letters. -/
inductive Format where
  | formatN | formatS | formatI | formatX | formatQ | formatG
  deriving DecidableEq, Repr

/-- The opcode byte of a row (R66, column op). -/
def Opcode.byte : Opcode → Nat
  | .gen => 0x10
  | .setfreq => 0x11
  | .setduty => 0x12
  | .setshape => 0x13
  | .setphase => 0x14
  | .setrange => 0x15
  | .pulse => 0x20
  | .setratio => 0x21
  | .setxclk => 0x22
  | .gate => 0x30
  | .mstep => 0x31
  | .setskip => 0x32
  | .setseq => 0x33
  | .settrig => 0x34

/-- The format of a row (R66, column format). -/
def Opcode.format : Opcode → Format
  | .gen => .formatG
  | .setfreq | .setduty | .setphase | .pulse => .formatQ
  | .setshape | .setrange | .setxclk | .settrig => .formatS
  | .setratio | .setseq => .formatI
  | .setskip => .formatX
  | .gate | .mstep => .formatN

/-- The rows in the order of R66. -/
def Opcode.all : List Opcode :=
  [.gen, .setfreq, .setduty, .setshape, .setphase, .setrange, .pulse, .setratio, .setxclk,
   .gate, .mstep, .setskip, .setseq, .settrig]

/-- The row with a given opcode byte, if one is assigned (R65 step 2). -/
def opcodeOf (op : Nat) : Option Opcode := Opcode.all.find? fun o => o.byte == op

/-- Every must-be-zero bit of the format is 0 (R61, R62). -/
def mustBeZeroClear (f : Format) (w : Word) : Bool :=
  match f with
  | .formatN => bits w 55 0 == 0
  | .formatS => bits w 55 49 == 0 && bits w 47 0 == 0
  | .formatI => bits w 47 0 == 0
  | .formatX => bits w 47 1 == 0
  | .formatQ => bits w 55 48 == 0
  | .formatG => bits w 55 48 == 0

/-- The operands of a row taken from their fields (R63; R65 step 4). -/
def extract (o : Opcode) (w : Word) : Instr :=
  match o with
  | .gen => .gen (bits w 47 16) (bits w 15 0)
  | .setfreq => .setfreq (bits w 47 0)
  | .setduty => .setduty (bits w 47 0)
  | .setshape => .setshape (bit w 48)
  | .setphase => .setphase (bits w 47 0)
  | .setrange => .setrange (bit w 48)
  | .pulse => .pulse (bits w 47 0)
  | .setratio => .setratio (bits w 55 48)
  | .setxclk => .setxclk (bit w 48)
  | .gate => .gate
  | .mstep => .mstep
  | .setskip => .setskip (bits w 55 48) (bit w 0)
  | .setseq => .setseq (bits w 55 48)
  | .settrig => .settrig (bit w 48)

/-- Why a word is a reserved encoding (R67). -/
inductive Reserved where
  /-- The opcode byte is none of the fourteen of R66. -/
  | unassignedOpcode (op : Nat)
  /-- The opcode is assigned and a must-be-zero bit of its format is 1. -/
  | mustBeZero (op : Nat)
  deriving DecidableEq, Repr

/-- What the decoder answers: a command, or "reserved" with the reason (R65, R67). -/
inductive Decoded where
  | command (i : Instr)
  | reserved (why : Reserved)
  deriving DecidableEq, Repr

/-- Decoding of one command word (R65). -/
def decode (w : Word) : Decoded :=
  match opcodeOf (bits w 63 56) with
  | none => .reserved (.unassignedOpcode (bits w 63 56))
  | some o =>
    if mustBeZeroClear o.format w then .command (extract o w)
    else .reserved (.mustBeZero (bits w 63 56))

/-- A word put together from its three fields: `(op << 56) OR (idx << 48) OR imm` (R60, R70), written as a sum, which
is the same number when each field is in its range. -/
def assembleFields (op idx imm : Nat) : Word := BitVec.ofNat 64 (op * 2 ^ 56 + idx * 2 ^ 48 + imm)

/-- The row of a command. -/
def Instr.opcode : Instr → Opcode
  | .gen _ _ => .gen
  | .setfreq _ => .setfreq
  | .setduty _ => .setduty
  | .setshape _ => .setshape
  | .setphase _ => .setphase
  | .setrange _ => .setrange
  | .pulse _ => .pulse
  | .setratio _ => .setratio
  | .setxclk _ => .setxclk
  | .gate => .gate
  | .mstep => .mstep
  | .setskip _ _ => .setskip
  | .setseq _ => .setseq
  | .settrig _ => .settrig

/-- The field `idx` of a command's word (R61). -/
def Instr.idxField : Instr → Nat
  | .setshape b | .setrange b | .setxclk b | .settrig b => b.toNat
  | .setratio k | .setseq k | .setskip k _ => k
  | .gen _ _ | .setfreq _ | .setduty _ | .setphase _ | .pulse _ | .gate | .mstep => 0

/-- The field `imm` of a command's word (R61). -/
def Instr.immField : Instr → Nat
  | .gen sr n => sr * 2 ^ 16 + n
  | .setfreq q | .setduty q | .setphase q | .pulse q => q
  | .setskip _ flag => flag.toNat
  | .setshape _ | .setrange _ | .setxclk _ | .settrig _ | .setratio _ | .setseq _ | .gate | .mstep => 0

/-- The word of a well-formed command (R60, R61, R66). -/
def encode (i : Instr) : Word := assembleFields i.opcode.byte i.idxField i.immField

/-- The column `match` of R66 and of spec/opcode_table.json. -/
def Opcode.matchBits : Opcode → Word
  | .gen => 0x1000000000000000#64
  | .setfreq => 0x1100000000000000#64
  | .setduty => 0x1200000000000000#64
  | .setshape => 0x1300000000000000#64
  | .setphase => 0x1400000000000000#64
  | .setrange => 0x1500000000000000#64
  | .pulse => 0x2000000000000000#64
  | .setratio => 0x2100000000000000#64
  | .setxclk => 0x2200000000000000#64
  | .gate => 0x3000000000000000#64
  | .mstep => 0x3100000000000000#64
  | .setskip => 0x3200000000000000#64
  | .setseq => 0x3300000000000000#64
  | .settrig => 0x3400000000000000#64

/-- The column `mask` of R66 and of spec/opcode_table.json. -/
def Opcode.maskBits : Opcode → Word
  | .gen | .setfreq | .setduty | .setphase | .pulse => 0xFFFF000000000000#64
  | .setshape | .setrange | .setxclk | .settrig => 0xFFFEFFFFFFFFFFFF#64
  | .setratio | .setseq => 0xFF00FFFFFFFFFFFF#64
  | .setskip => 0xFF00FFFFFFFFFFFE#64
  | .gate | .mstep => 0xFFFFFFFFFFFFFFFF#64

/-- `(W AND mask) = match`, the row's test as R62 words it. -/
def Opcode.selects (o : Opcode) (w : Word) : Bool := w &&& o.maskBits == o.matchBits

/-- The word numbered as spec/opcode_table.json numbers it: `nbits` bits are given and every bit above them is 0.
A number that does not fit the 64-bit word is no word. -/
def tableWord (nbits w : Nat) : Option Word :=
  if w % 2 ^ nbits < 2 ^ 64 then some (BitVec.ofNat 64 (w % 2 ^ nbits)) else none

/-- The host's view of the decoder: the command this model reads from a word of the opcode table. -/
def decodeTableWord (nbits w : Nat) : Option Instr :=
  match tableWord nbits w with
  | none => none
  | some word =>
    match decode word with
    | .command i => some i
    | .reserved _ => none

end Sys2Proof
end

