-- ==== Sys2Proof/Machine/Constants.lean ====
section
/-! DEFINITION. The named constants of spec 00_scope R6, each defined once and read by name everywhere else in the model,
and the two constant tables of the block: the ratio table (41_clock_sync R100) and the algorithm table (42_sequencer
R120). The four counts are abbreviations, because the registers' types are built from them. -/

namespace Sys2Proof.Machine

/-- `F_MIN`, the lower device bound of the free-running frequency in hertz (R6). -/
def fMin : Rat := 1 / 20

/-- `F_MAX`, the upper device bound (R6). -/
def fMax : Rat := 2000

/-- `F_SPLIT`, the boundary between the Low and High control ranges (R6); used by no rule of the block. -/
def fSplit : Rat := 10

/-- The end points in hertz that the host's mapping covers for each control range (R94). The block reads neither. -/
def rangeEnds : FreqRange → Rat × Rat
  | .low => (fMin, fSplit)
  | .high => (fSplit, fMax)

/-- `T_LOSS`, the clock-loss window in seconds (R6). -/
def tLoss : Rat := 20

/-- `MAX_PROBES`, the most applications of a stepping rule in one advance (R6). -/
def maxProbes : Nat := 8

/-- `N_STEPS`, the number of sequencer steps (R6): the type of `currentStep` and the length of `skipMask`. -/
abbrev nSteps : Nat := 8

/-- `N_RATIOS`, the number of clock ratios (R6): the type of `ratioIndex` and the length of the ratio table. -/
abbrev nRatios : Nat := 17

/-- The implemented stepping algorithms of `N_KINDS` (R6). -/
abbrev nImplementedKinds : Nat := 7

/-- `N_KINDS`, the ordinals of the algorithm table: the implemented ones and the one reserved slot (R6, R120). -/
abbrev nKinds : Nat := nImplementedKinds + 1

/-- `UNITY_INDEX`, the ratio index of x1 (R6, R100). -/
def unityIndex : Fin nRatios := 8

/-- The ratio table in its fixed ascending order (R100). -/
def ratioTable : Vector Rat nRatios :=
  #v[1 / 9, 1 / 8, 1 / 7, 1 / 6, 1 / 5, 1 / 4, 1 / 3, 1 / 2, 1, 2, 3, 4, 5, 6, 7, 8, 9]

/-- `Ratio(i)` (R100): a pure lookup. -/
def ratio (i : Fin nRatios) : Rat := ratioTable[i]

/-- The Sequence Algorithm Table by ordinal (R64, R120); the last slot is the reserved one and names no algorithm. -/
def kindTable : Vector (Option SeqKind) nKinds :=
  #v[some .up, some .down, some .upDown, some .random, some .p2m1, some .p1m2, some .m3p5, none]

/-- `Kind(k)`, ordinal to stepping algorithm (R132): none for the reserved slot and for every ordinal outside the table. -/
def kindOf (k : Nat) : Option SeqKind := if h : k < nKinds then kindTable[k] else none

end Sys2Proof.Machine
end

