-- ==== Sys2Proof/Config.lean ====
section
/-! DEFINITION. What one implementation fixes and what the spec leaves free (spec 00_scope R5, 10_state R38): the OPEN
parameters `EPS` and `EDGE_TH`, and the free input `Draw`. -/

namespace Sys2Proof

/-- The OPEN parameters of the step (R5, U3, U4). The record stands in `State` because the form of `exec` has no other
argument; no command writes it. DESIGN CHOICE, log entry 3. -/
structure Params where
  /-- `EPS`, the floor of the two triangle denominators (R5, R81). -/
  eps : Rat
  /-- `EDGE_TH`, the threshold of the rising-edge detector (R5, R128). -/
  edgeTh : Rat
  deriving DecidableEq, Repr

/-- The ranges of R5: `0 < EPS < 1` and `0 < EDGE_TH <= 1`. -/
abbrev Params.InRange (p : Params) : Prop := (0 < p.eps ∧ p.eps < 1) ∧ (0 < p.edgeTh ∧ p.edgeTh ≤ 1)

/-- The answer of the `n`-th call of `Draw()` (R5, R13, R137, U5): a step index, 0..7, under no law. It has no body, so
nothing proved of the model depends on an answer. Log entry 2. -/
opaque Config.draw : Nat → Fin Machine.nSteps

end Sys2Proof
end

