-- ==== Sys2Proof/Machine/ResetTable.lean ====
section
/-! DEFINITION. The defaults of the OPEN parameters (spec 00_scope R5), and the parameter `ResetCfg` (R5,
93_implementation_defined U6) with its default, the table of 10_state R47. -/

namespace Sys2Proof.Machine

/-- The defaults of R5: `EPS = 2^-20` and `EDGE_TH = 1/2`. -/
def defaultParams : Params := { eps := 1 / 1048576, edgeTh := 1 / 2 }

/-- The reset values an implementation may choose (R5, U6). Fixed and therefore absent here: `directionPhase`,
`lastPulseTimestamp` and `valid` (U6), `measuredPeriodSeconds` (with no timestamp, R46 item 8 leaves only `none`) and
`prevSample` (`none` while no sample has been emitted since reset, R37). -/
structure ResetCfg where
  phase : Rat
  freeRunHz : Rat
  dutyCycle : Rat
  shape : Shape
  range : FreqRange
  extClockEn : Bool
  ratioIndex : Fin nRatios
  pulseAge : Rat
  currentStep : Fin nSteps
  skipMask : Vector Bool nSteps
  sequenceKind : SeqKind
  trigSel : TrigSel
  deriving DecidableEq, Repr

/-- The table of R47. -/
def resetTable : ResetCfg where
  phase := 0
  freeRunHz := 1
  dutyCycle := 1 / 2
  shape := .square
  range := .low
  extClockEn := false
  ratioIndex := unityIndex
  pulseAge := 0
  currentStep := 0
  skipMask := Vector.replicate nSteps false
  sequenceKind := .up
  trigSel := .internal

/-- The instances of `ResetCfg` the spec admits: those that satisfy the invariants of R46 (U6). -/
abbrev ResetCfg.Legal (c : ResetCfg) : Prop :=
  (0 ≤ c.phase ∧ c.phase < 1) ∧ (fMin ≤ c.freeRunHz ∧ c.freeRunHz ≤ fMax) ∧
  (0 ≤ c.dutyCycle ∧ c.dutyCycle ≤ 1) ∧ 0 ≤ c.pulseAge

end Sys2Proof.Machine
end

