-- ==== Sys2Proof/Machine/State.lean ====
section
/-! DEFINITION. The machine's state as plain data (spec 10_state R20 to R47), its reasons to stop, and reset. -/

namespace Sys2Proof.Machine

/-- The seventeen registers of R21 to R37, the sample stream of R41, and three fields of the model's own (`port`,
`drawCount`, `params`). -/
structure State where
  /-- R21: phase accumulator, in [0,1). -/
  phase : Rat
  /-- R22: free-running frequency in hertz. -/
  freeRunHz : Rat
  /-- R23: duty cycle. -/
  dutyCycle : Rat
  /-- R24: waveform. -/
  shape : Shape
  /-- R25: control range, read by nothing in the block. -/
  range : FreqRange
  /-- R26: external-clock mode. -/
  extClockEn : Bool
  /-- R27: timestamp of the latest accepted pulse. -/
  lastPulseTimestamp : Option Rat
  /-- R28: latest accepted period. -/
  measuredPeriodSeconds : Option Rat
  /-- R29: status flag, the measured clock may be slaved to. -/
  valid : Bool
  /-- R30: index of the division/multiplication ratio. -/
  ratioIndex : Fin nRatios
  /-- R31 (hidden): seconds of samples since the latest accepted pulse, while `valid`. -/
  pulseAge : Rat
  /-- R32: current step. -/
  currentStep : Fin nSteps
  /-- R33: per-step skip flags, `true` = excluded. -/
  skipMask : Vector Bool nSteps
  /-- R34: selected stepping algorithm. -/
  sequenceKind : SeqKind
  /-- R35: status flag, `true` = forward sub-phase. -/
  directionPhase : Bool
  /-- R36: trigger selection. -/
  trigSel : TrigSel
  /-- R37 (hidden): the latest sample emitted since reset. -/
  prevSample : Option Rat
  /-- R40, R41: the output stream `sample_out`, oldest sample first. -/
  sampleOut : List Rat
  /-- The model's own: the host's merged sequence of command words still to arrive, the next one first (R52, R53).
  DESIGN CHOICE, log entry 1. -/
  port : List Word
  /-- The model's own: how many times `Draw()` has been called (R13, R137). DESIGN CHOICE, log entry 2. -/
  drawCount : Nat
  /-- The model's own: the OPEN parameters of R5. DESIGN CHOICE, log entry 3. -/
  params : Params
  deriving DecidableEq, Repr

/-- The block has no fault state: it raises no exception and takes no trap (R150). Nothing raises a fault. -/
inductive Fault where
  deriving DecidableEq, Repr

/-- Why the model gives a step no meaning. -/
inductive Refusal where
  /-- Raised only by an arm of `exec` whose instruction has no meaning yet; no arm is left so. Safe. -/
  | notModelled (mnemonic : String)
  /-- Raised by `step` when the next word is a reserved encoding (R67, U1): the spec gives it no behaviour and a model
  must refuse it. Safe. -/
  | reservedEncoding (why : Reserved)
  deriving DecidableEq, Repr

/-- Reset with an implementation's `ResetCfg` and parameters (R170, R171, U6): every register written, the sample
stream empty, nothing on the port, no draw consumed. -/
def State.resetWith (c : ResetCfg) (p : Params) : State where
  phase := c.phase
  freeRunHz := c.freeRunHz
  dutyCycle := c.dutyCycle
  shape := c.shape
  range := c.range
  extClockEn := c.extClockEn
  lastPulseTimestamp := none
  measuredPeriodSeconds := none
  valid := false
  ratioIndex := c.ratioIndex
  pulseAge := c.pulseAge
  currentStep := c.currentStep
  skipMask := c.skipMask
  sequenceKind := c.sequenceKind
  directionPhase := true
  trigSel := c.trigSel
  prevSample := none
  sampleOut := []
  port := []
  drawCount := 0
  params := p

/-- The machine right after reset, with the defaults of R5 and R47. -/
def State.reset : State := State.resetWith resetTable defaultParams

end Sys2Proof.Machine
end

