-- ==== Sys2Proof/Machine/Ops.lean ====
section
/-! DEFINITION. The arithmetic primitives of spec 00_scope R10 and the named writes of registers: a register is written
through these and nowhere else (10_state R20). The block takes no exception and returns from none (60_exceptions R150,
R154, R155), so no such operation stands here. -/

namespace Sys2Proof.Machine

/-! ### Arithmetic primitives -/

/-- `frac(x) = x - floor(x)` (R10). -/
def frac (x : Rat) : Rat := x - (x.floor : Rat)

/-- `clamp(x, lo, hi) = min(max(x, lo), hi)` (R10). -/
def clamp (x lo hi : Rat) : Rat := min (max x lo) hi

/-- `mod8(z)`, the unique residue in 0..7 of any integer, negative included (R10, R75). -/
def mod8 (z : Int) : Fin nSteps := Fin.ofNat nSteps (z % nSteps).toNat

/-! ### Writes of the oscillator's registers (R21 to R25) -/

def State.setPhase (s : State) (v : Rat) : State := { s with phase := v }
def State.setFreeRunHz (s : State) (v : Rat) : State := { s with freeRunHz := v }
def State.setDutyCycle (s : State) (v : Rat) : State := { s with dutyCycle := v }
def State.setShape (s : State) (v : Shape) : State := { s with shape := v }
def State.setRange (s : State) (v : FreqRange) : State := { s with range := v }

/-! ### Writes of the clock-sync registers (R26 to R31) -/

def State.setExtClockEn (s : State) (v : Bool) : State := { s with extClockEn := v }
def State.setLastPulse (s : State) (v : Rat) : State := { s with lastPulseTimestamp := some v }
def State.setPeriod (s : State) (v : Rat) : State := { s with measuredPeriodSeconds := some v }
def State.setValid (s : State) (v : Bool) : State := { s with valid := v }
def State.setRatioIndex (s : State) (v : Fin nRatios) : State := { s with ratioIndex := v }
def State.setPulseAge (s : State) (v : Rat) : State := { s with pulseAge := v }

/-! ### Writes of the sequencer's registers (R32 to R36) -/

/-- Commit of an advance: step and direction together (R126). -/
def State.commitStep (s : State) (c : Fin nSteps) (ph : Bool) : State := { s with currentStep := c, directionPhase := ph }
def State.setSkipMask (s : State) (v : Vector Bool nSteps) : State := { s with skipMask := v }
/-- A change of kind, which resets the direction to forward (R35, R132). -/
def State.changeKind (s : State) (v : SeqKind) : State := { s with sequenceKind := v, directionPhase := true }
def State.setTrigSel (s : State) (v : TrigSel) : State := { s with trigSel := v }

/-! ### The edge detector's memory, the sample stream, and the model's own fields -/

/-- `Emit(v)` (R13, R41) with the write of `prevSample` that follows it in SAMPLE (R37, R82). -/
def State.emit (s : State) (v : Rat) : State := { s with sampleOut := s.sampleOut ++ [v], prevSample := some v }
def State.setDrawCount (s : State) (v : Nat) : State := { s with drawCount := v }
def State.setPort (s : State) (v : List Word) : State := { s with port := v }

end Sys2Proof.Machine
end

