-- ==== Sys2Proof/Machine/Operands.lean ====
section
/-! DEFINITION. The values of the encoded operands (spec 30_encoding R63, R64). -/

namespace Sys2Proof.Machine

/-- Unsigned Q16.32: `q / 2^32` (R63), the operand of SETFREQ, SETDUTY and SETPHASE. -/
def q16_32 (q : Nat) : Rat := (q : Rat) / 4294967296

/-- Unsigned Q32.16: `q / 2^16` (R63), the timestamp of PULSE in seconds. -/
def q32_16 (q : Nat) : Rat := (q : Rat) / 65536

/-- SETSHAPE's selector (R64, R86). -/
def shapeOf (sel : Bool) : Shape := if sel then .triangle else .square

/-- SETRANGE's selector (R64, R88). -/
def rangeOf (sel : Bool) : FreqRange := if sel then .high else .low

/-- SETTRIG's selector (R64, R133). -/
def trigOf (sel : Bool) : TrigSel := if sel then .externalGate else .internal

/-- SETRATIO's index clamped to the last ratio, `min(k, 16)` (R105). -/
def ratioIndexOf (k : Nat) : Fin nRatios := Fin.ofNat nRatios (min k (nRatios - 1))

end Sys2Proof.Machine
end

