-- ==== Sys2Proof/Machine/ClockSync.lean ====
section
/-! DEFINITION. The clock-sync commands PULSE, SETRATIO, SETXCLK (spec 41_clock_sync R103, R105, R106) and the situations
of the unit (R108). -/

namespace Sys2Proof.Machine

/-- One external pulse at time `t` (R103): the first pulse arms the unit, a timestamp that does not advance is ignored,
a late pulse clears `valid` and starts the next pair, any other stores its period. -/
def onPulse (t : Rat) (s : State) : State :=
  match s.lastPulseTimestamp with
  | none => ((s.setLastPulse t).setValid false).setPulseAge 0
  | some t0 =>
    let period := t - t0
    if period ≤ 0 then s
    else if tLoss < period then ((s.setValid false).setLastPulse t).setPulseAge 0
    else (((s.setPeriod period).setValid true).setLastPulse t).setPulseAge 0

/-- PULSE (R103). -/
def execPulse (q : Nat) (s : State) : Host.Outcome State Fault Refusal :=
  .next (onPulse (q32_16 q) s)

/-- SETRATIO (R105): the ratio index, clamped to 16. -/
def execSetratio (k : Nat) (s : State) : Host.Outcome State Fault Refusal :=
  .next (s.setRatioIndex (ratioIndexOf k))

/-- SETXCLK (R106). -/
def execSetxclk (sel : Bool) (s : State) : Host.Outcome State Fault Refusal :=
  .next (s.setExtClockEn sel)

/-- The three situations of the Clock Sync Unit (R108). -/
inductive Situation where
  | idle
  | armed
  | locked
  deriving DecidableEq, Repr

/-- The situation is no register but a reading of `lastPulseTimestamp` and `valid` (R108). -/
def situation (s : State) : Situation :=
  if s.valid then .locked
  else if s.lastPulseTimestamp.isSome then .armed
  else .idle

end Sys2Proof.Machine
end

