-- ==== Sys2Proof/Machine/Flags.lean ====
section
/-! DEFINITION. The flag computations inside SAMPLE: the clock-loss timer that clears `valid` (spec 41_clock_sync R107)
and the rising-edge test (42_sequencer R128). The block has no arithmetic condition codes (10_state R45). -/

namespace Sys2Proof.Machine

/-- Step T of `SAMPLE(sr)` (R82, R107): while `valid`, the sample's time is added to `pulseAge`, and `valid` is cleared
when the sum exceeds the window. -/
def clockLossTimer (sr : Rat) (s : State) : State :=
  if s.valid then
    let aged := s.setPulseAge (s.pulseAge + 1 / sr)
    if tLoss < aged.pulseAge then aged.setValid false else aged
  else s

/-- The edge test (R128): the previous sample exists and lies below the threshold, the present one at or above it. -/
def risingEdge (edgeTh : Rat) (prev : Option Rat) (v : Rat) : Bool :=
  match prev with
  | none => false
  | some q => decide (q < edgeTh) && decide (edgeTh ≤ v)

end Sys2Proof.Machine
end

