-- ==== Sys2Proof/Machine/Stepping.lean ====
section
/-! DEFINITION. The stepping algorithms and the micro-operation `Advance()` (spec 42_sequencer R120 to R127, R134 to
R140). The answers of `Draw()` come as an argument, so that a claim can speak of every answer. -/

namespace Sys2Proof.Machine

/-- `Lo()` (R122): the least active index, recomputed from the mask at every use. -/
def lowestActive (mask : Vector Bool nSteps) : Option (Fin nSteps) := (List.finRange nSteps).find? fun i => !mask[i]

/-- `Hi()` (R122): the greatest active index. -/
def highestActive (mask : Vector Bool nSteps) : Option (Fin nSteps) := (List.finRange nSteps).reverse.find? fun i => !mask[i]

/-- The boundary test of UpDown (R136), made on the index the rule starts from: forward at the lowest active index,
then backward at the highest. -/
def turnAtBoundary (mask : Vector Bool nSteps) (c : Fin nSteps) (ph : Bool) : Bool :=
  let ph' := if lowestActive mask = some c then true else ph
  if highestActive mask = some c then false else ph'

/-- `Apply(kind, c, ph)` (R123): one application of the selected rule, `drawn` being the answer of the `Draw()` that
Random consumes. It writes no register. -/
def applyRule (mask : Vector Bool nSteps) (drawn : Fin nSteps) (kind : SeqKind) (c : Fin nSteps) (ph : Bool) : Fin nSteps × Bool :=
  match kind with
  | .up => (mod8 ((c.val : Int) + 1), ph)
  | .down => (mod8 ((c.val : Int) - 1), ph)
  | .upDown =>
    let ph' := turnAtBoundary mask c ph
    (if ph' then mod8 ((c.val : Int) + 1) else mod8 ((c.val : Int) - 1), ph')
  | .random => (drawn, ph)
  | .p2m1 => if ph then (mod8 ((c.val : Int) + 2), false) else (mod8 ((c.val : Int) - 1), true)
  | .p1m2 => if ph then (mod8 ((c.val : Int) + 1), false) else (mod8 ((c.val : Int) - 2), true)
  | .m3p5 => if ph then (mod8 ((c.val : Int) - 3), false) else (mod8 ((c.val : Int) + 5), true)

/-- How many draws one application consumes (R137). -/
def drawsPerProbe : SeqKind → Nat
  | .random => 1
  | .up | .down | .upDown | .p2m1 | .p1m2 | .m3p5 => 0

/-- The probe loop of `Advance()` (R126): at most `k` more chained probes from candidate `c` with working phase `ph`,
`n` draws consumed so far. It answers the committed pair, or none for a give-up, and the draws consumed at the end. -/
def probe (draw : Nat → Fin nSteps) (mask : Vector Bool nSteps) (kind : SeqKind) :
    Nat → Nat → Fin nSteps → Bool → Option (Fin nSteps × Bool) × Nat
  | 0, n, _, _ => (none, n)
  | k + 1, n, c, ph =>
    let next := applyRule mask (draw n) kind c ph
    if mask[next.1] then probe draw mask kind k (n + drawsPerProbe kind) next.1 next.2
    else (some next, n + drawsPerProbe kind)

/-- `Advance()` (R126): commit the first active candidate of at most eight probes; a give-up writes no register. -/
def advance (draw : Nat → Fin nSteps) (s : State) : State :=
  match probe draw s.skipMask s.sequenceKind maxProbes s.drawCount s.currentStep s.directionPhase with
  | (some (c, ph), n) => (s.commitStep c ph).setDrawCount n
  | (none, n) => s.setDrawCount n

end Sys2Proof.Machine
end

