-- ==== Sys2Proof/Machine/Sampling.lean ====
section
/-! DEFINITION. The shaper `Wave` and the micro-operation `SAMPLE` (spec 40_oscillator R81, R82), and the sample loop of
GEN (R83). -/

namespace Sys2Proof.Machine

/-- `Wave(shape, p, d)` (R81), with `EPS` as an argument. -/
def wave (eps : Rat) (shape : Shape) (p d : Rat) : Rat :=
  match shape with
  | .square => if p < d then 1 else 0
  | .triangle => if p < d then p / max d eps else 1 - (p - d) / max (1 - d) eps

/-- Step F of SAMPLE (R82, R109): the slaved frequency when external-clock mode is on and the clock is valid, else the
free-running one. `valid` with no measured period cannot occur (R28, R29, R46 item 7); outside the invariant the
free-running frequency stands. DESIGN CHOICE, log entry 5. -/
def selectFreq (s : State) : Rat :=
  if s.extClockEn && s.valid then
    match s.measuredPeriodSeconds with
    | some p => ratio s.ratioIndex / p
    | none => s.freeRunHz
  else s.freeRunHz

/-- `SAMPLE(sr)` (R82): timer, frequency selection, phase advance, shaping, emission, edge detection, and the advance
an edge causes in Internal mode. -/
def sample (draw : Nat → Fin nSteps) (sr : Rat) (s : State) : State :=
  let timed := clockLossTimer sr s
  let phase := frac (timed.phase + selectFreq timed / sr)
  let v := wave timed.params.eps timed.shape phase timed.dutyCycle
  let emitted := (timed.setPhase phase).emit v
  if risingEdge timed.params.edgeTh timed.prevSample v = true ∧ timed.trigSel = .internal then advance draw emitted
  else emitted

/-- `repeat n times: SAMPLE(sr)` (R83). -/
def generate (draw : Nat → Fin nSteps) (sr : Rat) : Nat → State → State
  | 0, s => s
  | n + 1, s => generate draw sr n (sample draw sr s)

end Sys2Proof.Machine
end

