-- ==== Sys2Proof/Machine/Oscillator.lean ====
section
/-! DEFINITION. The oscillator commands GEN, SETFREQ, SETDUTY, SETSHAPE, SETPHASE, SETRANGE (spec 40_oscillator R83 to
R88). -/

namespace Sys2Proof.Machine

/-- GEN (R83): `sr = 0` is ignored whole; otherwise `n` samples. -/
def execGen (sr n : Nat) (s : State) : Host.Outcome State Fault Refusal :=
  if sr = 0 then .next s else .next (generate Config.draw (sr : Rat) n s)

/-- SETFREQ (R84): the free-running frequency, clamped to the device range. -/
def execSetfreq (q : Nat) (s : State) : Host.Outcome State Fault Refusal :=
  .next (s.setFreeRunHz (clamp (q16_32 q) fMin fMax))

/-- SETDUTY (R85): the duty cycle, clamped to [0,1]. -/
def execSetduty (q : Nat) (s : State) : Host.Outcome State Fault Refusal :=
  .next (s.setDutyCycle (clamp (q16_32 q) 0 1))

/-- SETSHAPE (R86). -/
def execSetshape (sel : Bool) (s : State) : Host.Outcome State Fault Refusal :=
  .next (s.setShape (shapeOf sel))

/-- SETPHASE (R87): the operand reduced modulo 1. -/
def execSetphase (q : Nat) (s : State) : Host.Outcome State Fault Refusal :=
  .next (s.setPhase (frac (q16_32 q)))

/-- SETRANGE (R88). -/
def execSetrange (sel : Bool) (s : State) : Host.Outcome State Fault Refusal :=
  .next (s.setRange (rangeOf sel))

end Sys2Proof.Machine
end

