-- ==== Sys2Proof/Machine/Sequencer.lean ====
section
/-! DEFINITION. The sequencer commands GATE, MSTEP, SETSKIP, SETSEQ, SETTRIG (spec 42_sequencer R129 to R133). -/

namespace Sys2Proof.Machine

/-- GATE (R129): one advance in ExternalGate mode, ignored in Internal mode. -/
def execGate (s : State) : Host.Outcome State Fault Refusal :=
  match s.trigSel with
  | .externalGate => .next (advance Config.draw s)
  | .internal => .next s

/-- MSTEP (R130): one advance in either mode. -/
def execMstep (s : State) : Host.Outcome State Fault Refusal :=
  .next (advance Config.draw s)

/-- SETSKIP (R131): one skip flag; an index above 7 is rejected. -/
def execSetskip (k : Nat) (flag : Bool) (s : State) : Host.Outcome State Fault Refusal :=
  if h : k < nSteps then .next (s.setSkipMask (s.skipMask.set k flag h)) else .next s

/-- SETSEQ (R132): an ordinal of 7 or more is rejected, the kind already selected changes nothing, any other kind is
stored and the direction reset to forward. -/
def execSetseq (k : Nat) (s : State) : Host.Outcome State Fault Refusal :=
  match kindOf k with
  | none => .next s
  | some kind => if kind = s.sequenceKind then .next s else .next (s.changeKind kind)

/-- SETTRIG (R133). -/
def execSettrig (sel : Bool) (s : State) : Host.Outcome State Fault Refusal :=
  .next (s.setTrigSel (trigOf sel))

end Sys2Proof.Machine
end

