-- ==== Sys2Proof/Machine/Dispatch.lean ====
section
/-! DEFINITION. One arm per command (spec 30_encoding R66). -/

namespace Sys2Proof.Machine

def exec (i : Instr) (s : State) : Host.Outcome State Fault Refusal :=
  match i with
  | .gen sr n => Sys2Proof.Machine.execGen sr n s
  | .setfreq q => Sys2Proof.Machine.execSetfreq q s
  | .setduty q => Sys2Proof.Machine.execSetduty q s
  | .setshape sel => Sys2Proof.Machine.execSetshape sel s
  | .setphase q => Sys2Proof.Machine.execSetphase q s
  | .setrange sel => Sys2Proof.Machine.execSetrange sel s
  | .pulse q => Sys2Proof.Machine.execPulse q s
  | .setratio k => Sys2Proof.Machine.execSetratio k s
  | .setxclk sel => Sys2Proof.Machine.execSetxclk sel s
  | .gate => Sys2Proof.Machine.execGate s
  | .mstep => Sys2Proof.Machine.execMstep s
  | .setskip k flag => Sys2Proof.Machine.execSetskip k flag s
  | .setseq k => Sys2Proof.Machine.execSetseq k s
  | .settrig sel => Sys2Proof.Machine.execSettrig sel s

end Sys2Proof.Machine
end

