-- ==== Sys2Proof/Machine/Fetch.lean ====
section
/-! DEFINITION. Taking the next command word from the port (spec 20_memory R52). The block fetches no instructions
(10_state R44): the host pushes words, and the port lists those still to arrive. -/

namespace Sys2Proof.Machine

/-- What the command port holds next: nothing, or a decoded word with the state after its arrival. -/
inductive Arrival where
  | idle
  | command (i : Instr) (s : State)
  | reserved (why : Reserved)
  deriving DecidableEq, Repr

/-- The next word arrives and is decoded (R52, R65). -/
def arrive (s : State) : Arrival :=
  match s.port with
  | [] => .idle
  | w :: rest =>
    match decode w with
    | .command i => .command i (s.setPort rest)
    | .reserved why => .reserved why

/-- The word of the opcode table placed as the next one to arrive. -/
def pushTableWord (s : State) (nbits w : Nat) : State :=
  match tableWord nbits w with
  | some word => s.setPort (word :: s.port)
  | none => s

end Sys2Proof.Machine
end

