-- ==== Sys2Proof/Machine/Step.lean ====
section
/-! DEFINITION. One step: the next command arrives and runs to completion (spec 20_memory R52). -/

namespace Sys2Proof.Machine

/-- One step (R52, R67, R162): with no command on the port the block holds its state; a reserved word is refused; a
command executes whole. -/
def step (s : State) : Host.Outcome State Fault Refusal :=
  match arrive s with
  | .idle => .next s
  | .command i t => exec i t
  | .reserved why => .refused (.reservedEncoding why)

/-- The state whose very next step runs the given word of the opcode table (log entry 1). -/
def State.withFetchWord (s : State) (nbits w : Nat) : State := pushTableWord s nbits w

end Sys2Proof.Machine
end

