-- ==== Sys2Proof/Machine/Assembler.lean ====
section
/-! DEFINITION. The spec's textual form of a command and its assembly into a word (spec 30_encoding R70). One line holds
one command; there are no pseudo-instructions (R71). What the text leaves open (spaces, the spelling of a decimal) is
log entry 7. -/

namespace Sys2Proof.Machine

/-- The mnemonic of a row, in upper case (R66, R70). -/
def mnemonicText : Opcode → String
  | .gen => "GEN"
  | .setfreq => "SETFREQ"
  | .setduty => "SETDUTY"
  | .setshape => "SETSHAPE"
  | .setphase => "SETPHASE"
  | .setrange => "SETRANGE"
  | .pulse => "PULSE"
  | .setratio => "SETRATIO"
  | .setxclk => "SETXCLK"
  | .gate => "GATE"
  | .mstep => "MSTEP"
  | .setskip => "SETSKIP"
  | .setseq => "SETSEQ"
  | .settrig => "SETTRIG"

/-- The names SETSEQ takes for the ordinals 0 to 6 (R70). -/
def kindNames : List String := ["UP", "DOWN", "UPDOWN", "RANDOM", "P2M1", "P1M2", "M3P5"]

def digitValue (c : Char) : Option Nat :=
  if 48 ≤ c.toNat ∧ c.toNat ≤ 57 then some (c.toNat - 48) else none

def digitsValue : List Char → Nat → Option Nat
  | [], n => some n
  | c :: cs, n =>
    match digitValue c with
    | some d => digitsValue cs (10 * n + d)
    | none => none

/-- A decimal integer: one digit or more. -/
def decimalInteger (cs : List Char) : Option Nat :=
  match cs with
  | [] => none
  | _ :: _ => digitsValue cs 0

/-- A decimal number, or a fraction `a/b` (R70), as the exact rational it names. DESIGN CHOICE, log entry 7: R70 does not
say whether `a` and `b` may be decimals themselves, and this assembler takes decimal integers only, so that `0.5/2` is no
number; nor is a sum with a power such as `45 + 2^-16`, which spec 95_test_vectors writes once (T-CLK-3) and R70's table
does not give. -/
def numberValue (cs : List Char) : Option Rat :=
  match cs.splitOn '/' with
  | [a, b] =>
    match decimalInteger a, decimalInteger b with
    | some x, some y => if y = 0 then none else some ((x : Rat) / (y : Rat))
    | _, _ => none
  | [a] =>
    match a.splitOn '.' with
    | [whole] => (decimalInteger whole).map fun x => (x : Rat)
    | [whole, part] =>
      match decimalInteger whole, decimalInteger part with
      | some x, some y => some ((x : Rat) + (y : Rat) / ((10 ^ part.length : Nat) : Rat))
      | _, _ => none
    | _ => none
  | _ => none

/-- A number times the scale of its field, if that is an integer (R70: otherwise the line has no encoding). -/
def fixedPoint (scale : Nat) (cs : List Char) : Option Nat :=
  match numberValue cs with
  | none => none
  | some x => if (x * (scale : Rat)).den = 1 then some (x * (scale : Rat)).num.toNat else none

/-- One of two names, standing for 0 and 1. -/
def nameValue (zero one : String) (cs : List Char) : Option Bool :=
  if cs = zero.toList then some false else if cs = one.toList then some true else none

/-- SETSEQ's operand: an ordinal or a name of R70. -/
def kindValue (cs : List Char) : Option Nat :=
  match kindNames.findIdx? fun name => name.toList == cs with
  | some k => some k
  | none => decimalInteger cs

/-- The command a row's operands spell, if their number and spelling are right (R70). -/
def operandsValue (o : Opcode) (ops : List (List Char)) : Option Instr :=
  match o, ops with
  | .gen, [a, b] =>
    match decimalInteger a, decimalInteger b with
    | some sr, some n => some (.gen sr n)
    | _, _ => none
  | .setfreq, [a] => (fixedPoint 4294967296 a).map .setfreq
  | .setduty, [a] => (fixedPoint 4294967296 a).map .setduty
  | .setphase, [a] => (fixedPoint 4294967296 a).map .setphase
  | .pulse, [a] => (fixedPoint 65536 a).map .pulse
  | .setshape, [a] => (nameValue "SQUARE" "TRIANGLE" a).map .setshape
  | .setrange, [a] => (nameValue "LOW" "HIGH" a).map .setrange
  | .setxclk, [a] => (nameValue "0" "1" a).map .setxclk
  | .settrig, [a] => (nameValue "INTERNAL" "GATE" a).map .settrig
  | .setratio, [a] => (decimalInteger a).map .setratio
  | .setseq, [a] => (kindValue a).map .setseq
  | .setskip, [a, b] =>
    match decimalInteger a, nameValue "0" "1" b with
    | some k, some flag => some (.setskip k flag)
    | _, _ => none
  | .gate, [] => some .gate
  | .mstep, [] => some .mstep
  | _, _ => none

def trimSpaces (cs : List Char) : List Char :=
  ((cs.dropWhile fun c => c == ' ').reverse.dropWhile fun c => c == ' ').reverse

/-- The operands after the mnemonic: none, or pieces separated by commas. -/
def splitOperands (cs : List Char) : List (List Char) :=
  match trimSpaces cs with
  | [] => []
  | c :: rest => ((c :: rest).splitOn ',').map trimSpaces

/-- A line of the textual form, its comment from `;` on left out, as the command it names (R70). -/
def parseLine (line : String) : Option Instr :=
  let code := trimSpaces (line.toList.takeWhile fun c => c != ';')
  let name := code.takeWhile fun c => c != ' '
  match Opcode.all.find? fun o => (mnemonicText o).toList == name with
  | some o => operandsValue o (splitOperands (code.dropWhile fun c => c != ' '))
  | none => none

/-- The word of a line, if it has one: every operand fits its field (R70). -/
def assemble (line : String) : Option Word :=
  match parseLine line with
  | some i => if i.fits then some (encode i) else none
  | none => none

end Sys2Proof.Machine
end

