-- ==== Sys2Proof/Machine/Outputs.lean ====
section
/-! DEFINITION. The block's outputs as functions of the state (spec 10_state R40 to R42, 41_clock_sync R104). Reading one
has no side effect (20_memory R54). -/

namespace Sys2Proof.Machine

/-- `step_out[2:0]` (R40): `currentStep` as an unsigned binary number. -/
def stepOut (s : State) : BitVec 3 := BitVec.ofNat 3 s.currentStep.val

/-- `clk_valid` (R40). -/
def clkValid (s : State) : Bool := s.valid

/-- `ratio_out` (R40): an integer in 0..16. -/
def ratioOut (s : State) : Nat := s.ratioIndex.val

/-- `eff_freq` (R104): what the frequency would be if slaved, whatever `extClockEn` says. `valid` with no measured
period cannot occur (R28, R29); log entry 5. -/
def effFreq (s : State) : Option Rat :=
  if s.valid then
    match s.measuredPeriodSeconds with
    | some p => some (ratio s.ratioIndex * (1 / p))
    | none => none
  else none

/-- `sample_out` (R41): the samples emitted since reset, oldest first. -/
def sampleStream (s : State) : List Rat := s.sampleOut

end Sys2Proof.Machine
end

