-- ==== Sys2Proof/Safety.lean ====
section
/-! DEFINITION. The terms the claims use: the invariants of spec 10_state R46, runs of commands (70_reset R186), merges
of the hosts' sequences (20_memory R53), and the chain of probes of one advance (42_sequencer R126). -/

namespace Sys2Proof.Machine

/-- The invariants that hold after reset and after every command: R46 items 1 to 3 and 7 to 10 (items 4 to 6 are in the
registers' types), the legal values of R20 for the two optional clock registers (R27, R28), the range of every emitted
sample (R41), and the ranges of the OPEN parameters (R5). -/
structure Inv (s : State) : Prop where
  phase_range : 0 ≤ s.phase ∧ s.phase < 1
  freq_range : fMin ≤ s.freeRunHz ∧ s.freeRunHz ≤ fMax
  duty_range : 0 ≤ s.dutyCycle ∧ s.dutyCycle ≤ 1
  valid_locked : s.valid = true →
    (∃ p, s.measuredPeriodSeconds = some p) ∧ s.lastPulseTimestamp ≠ none ∧ s.pulseAge ≤ tLoss
  period_range : ∀ p, s.measuredPeriodSeconds = some p → 0 < p ∧ p ≤ tLoss
  period_after_pulse : s.measuredPeriodSeconds ≠ none → s.lastPulseTimestamp ≠ none
  timestamp_range : ∀ t, s.lastPulseTimestamp = some t → 0 ≤ t
  prev_range : ∀ v, s.prevSample = some v → 0 ≤ v ∧ v ≤ 1
  age_range : 0 ≤ s.pulseAge
  samples_range : ∀ v ∈ s.sampleOut, 0 ≤ v ∧ v ≤ 1
  params_range : s.params.InRange

/-- The bound of R31 on the clock-loss timer's register: the window and the one second of the slowest sample. -/
abbrev AgeBound (s : State) : Prop := s.pulseAge ≤ tLoss + 1

/-- `prevSample` is the latest sample of the stream, or none while the stream is empty (R37). -/
abbrev StreamTracked (s : State) : Prop := s.prevSample = s.sampleOut.getLast?

/-- A run: a finite sequence of commands, each executed to completion (R52, R186). -/
def run : List Instr → State → Host.Outcome State Fault Refusal
  | [], s => .next s
  | i :: is, s =>
    match exec i s with
    | .next t => run is t
    | .fault r => .fault r
    | .refused r => .refused r

/-- The ten SET commands (R54). -/
def isSetCommand : Instr → Bool
  | .setfreq _ | .setduty _ | .setshape _ | .setphase _ | .setrange _ | .setratio _ | .setxclk _
  | .setskip _ _ | .setseq _ | .settrig _ => true
  | .gen _ _ | .pulse _ | .gate | .mstep => false

/-- `ws` is a merge of the hosts' sequences `qs` that keeps each host's own order (R53, U11). -/
inductive Merged : List (List Word) → List Word → Prop where
  | done (qs : List (List Word)) (empty : ∀ q ∈ qs, q = []) : Merged qs []
  | take (before after : List (List Word)) (w : Word) (rest ws : List Word)
      (tail : Merged (before ++ rest :: after) ws) : Merged (before ++ (w :: rest) :: after) (w :: ws)

/-- The decoder gives the word a command (R65). -/
def LegalWord (w : Word) : Prop := ∃ i, decode w = .command i

/-- The host's obligation of R179 at a pulse: its timestamp is greater than that of the latest accepted one. -/
def TimestampIncreases (s : State) (q : Nat) : Prop := ∀ t0, s.lastPulseTimestamp = some t0 → t0 < q32_16 q

/-- The model's reading of the host's obligation of R177 between two pulses: the `n` samples issued at rate `sr` account
for no more time than the timestamps say has passed. DESIGN CHOICE, log entry 15: R177 says "about (t2 - t1) seconds" and
gives no tolerance; this premise takes the upper half only, and one GEN at one rate. -/
def OneTimeBase (sr n q1 q2 : Nat) : Prop := (n : Rat) / (sr : Rat) ≤ q32_16 q2 - q32_16 q1

/-- The pair (candidate, working phase) after `k` chained probes from the state's own pair, with no commit (R126). -/
def chained (draw : Nat → Fin nSteps) (s : State) : Nat → Fin nSteps × Bool
  | 0 => (s.currentStep, s.directionPhase)
  | k + 1 =>
    applyRule s.skipMask (draw (s.drawCount + k)) s.sequenceKind (chained draw s k).1 (chained draw s k).2

end Sys2Proof.Machine
end

