-- ==== Sys2Proof/Certificates/Slice0/Obligations.lean ====
section
/-! DEFINITION. The statements about the machine, each formalising rules of the spec. -/

open Sys2Proof Sys2Proof.Machine

/-! ### Encoding (spec 30_encoding) -/

/-- R60, R61, R63, R66: the decoder gives back every command the encoding can express, every operand whole. -/
def Obligations.DecodeInvertsEncode : Prop :=
  ∀ i : Instr, i.WellFormed → decode (encode i) = .command i

/-- R61, R62, R65: a legal word is the one encoding of the command it decodes to, so no bit of it is dropped. -/
def Obligations.EncodeInvertsDecode : Prop :=
  ∀ (w : Word) (i : Instr), decode w = .command i → encode i = w

/-- R63: the operands the decoder extracts lie in the ranges of their fields. -/
def Obligations.DecodedCommandsFitTheirFields : Prop :=
  ∀ (w : Word) (i : Instr), decode w = .command i → i.WellFormed

/-- R62: a word is legal exactly when a row's mask and match select it, at most one row does, and it is the row of the
decoded command; an assigned opcode with a must-be-zero bit set is reserved. -/
def Obligations.LegalExactlyWhenOneRowSelects : Prop :=
  ∀ w : Word,
    (LegalWord w ↔ ∃ o : Opcode, o.selects w = true) ∧
    (∀ o p : Opcode, o.selects w = true → p.selects w = true → o = p) ∧
    (∀ i, decode w = .command i → i.opcode.selects w = true) ∧
    (∀ o : Opcode, bits w 63 56 = o.byte → mustBeZeroClear o.format w = false →
      decode w = .reserved (.mustBeZero o.byte))

/-- R67: a word whose opcode byte is none of the fourteen, the all-zero word included, and a word with an assigned
opcode and a 1 in a must-be-zero bit get no step: the model refuses them. The port that holds the word is the model's (log entry 1). -/
def Obligations.ReservedWordsAreRefused : Prop :=
  (∀ (s : State) (w : Word) (rest : List Word), s.port = w :: rest →
    ((∀ o : Opcode, bits w 63 56 ≠ o.byte) →
      step s = .refused (.reservedEncoding (.unassignedOpcode (bits w 63 56)))) ∧
    (∀ o : Opcode, bits w 63 56 = o.byte → mustBeZeroClear o.format w = false →
      step s = .refused (.reservedEncoding (.mustBeZero o.byte)))) ∧
  ∀ o : Opcode, bits 0#64 63 56 ≠ o.byte

/-- 95_test_vectors T-ENC-1: one word of each row, written out from the spec, decodes to its command. -/
def Obligations.SpecWordsDecode : Prop :=
  [0x100000001F400010#64, 0x1100000280000000#64, 0x1200000050000000#64, 0x1301000000000000#64,
   0x14000000E0000000#64, 0x1501000000000000#64, 0x2000000000018000#64, 0x2110000000000000#64,
   0x2201000000000000#64, 0x3000000000000000#64, 0x3100000000000000#64, 0x3207000000000001#64,
   0x3306000000000000#64, 0x3401000000000000#64].map decode =
  [.command (.gen 8000 16), .command (.setfreq 10737418240), .command (.setduty 1342177280),
   .command (.setshape true), .command (.setphase 3758096384), .command (.setrange true),
   .command (.pulse 98304), .command (.setratio 16), .command (.setxclk true), .command .gate,
   .command .mstep, .command (.setskip 7 true), .command (.setseq 6), .command (.settrig true)]

/-- R70: the worked examples of the textual form, and two lines that have no encoding. Spaces are read as log entry 7
says. -/
def Obligations.AssemblerWorkedExamples : Prop :=
  assemble "SETFREQ 2.5" = some 0x1100000280000000#64 ∧
  assemble "SETFREQ 1/16" = some 0x1100000010000000#64 ∧
  assemble "PULSE 45.0000152587890625" = some 0x20000000002D0001#64 ∧
  assemble "GEN 8000, 16        ; 16 samples" = some 0x100000001F400010#64 ∧
  assemble "SETSEQ P2M1" = some 0x3304000000000000#64 ∧
  assemble "SETSKIP 9, 1" = some 0x3209000000000001#64 ∧
  assemble "SETFREQ 1/20" = none ∧ assemble "SETDUTY 1/3" = none

/-- R70: whatever line has a word, that word is a legal command. -/
def Obligations.AssembledWordsAreLegal : Prop :=
  ∀ (line : String) (w : Word), assemble line = some w → LegalWord w

/-! ### Steps and runs (spec 20_memory, 70_reset_and_hazards) -/

/-- R52, R162: one step takes the next word from the port and executes the command it decodes to, whole; with no word
on the port the block holds its state. The port, and the idle step, are the model's (log entries 1 and 10). -/
def Obligations.StepRunsTheArrivingCommand : Prop :=
  (∀ (s : State) (w : Word) (rest : List Word) (i : Instr),
    s.port = w :: rest → decode w = .command i → step s = exec i { s with port := rest }) ∧
  ∀ s : State, s.port = [] → step s = .next s

/-- R52: stepping the machine through the words of a sequence of commands has the effect of executing the commands one
after another in the order of arrival. The port is the model's (log entry 1). -/
def Obligations.CommandSequenceRunsInOrder : Prop :=
  ∀ (is : List Instr) (s : State), (∀ i ∈ is, i.WellFormed) →
    Sys2Proof.core.run is.length { s with port := is.map encode } = run is { s with port := [] }

/-- R52, R53, R186: whatever merge of the hosts' sequences of legal words arrives, the run completes with nothing left
on the port. The port is the model's (log entry 1). -/
def Obligations.MergedHostSequencesComplete : Prop :=
  ∀ (qs : List (List Word)) (s : State), Merged qs s.port → (∀ q ∈ qs, ∀ w ∈ q, LegalWord w) →
    ∃ t : State, Sys2Proof.core.run s.port.length s = .next t ∧ t.port = []

/-- R150, R186: every command completes in every state; no command touches the port or the parameters. -/
def Obligations.NoCommandStopsTheMachine : Prop :=
  ∀ (i : Instr) (s : State), ∃ t, exec i s = .next t ∧ t.port = s.port ∧ t.params = s.params

/-! ### Invariants and reset (spec 10_state) -/

/-- R46: the invariants hold after every command that completes. -/
def Obligations.StepKeepsInvariants : Prop :=
  ∀ s t : State, Inv s → step s = .next t → Inv t

/-- R46: the invariants hold after reset, with the default reset table and parameters (log entries 3 and 4). -/
def Obligations.ResetMeetsInvariants : Prop := Inv State.reset

/-- U6: every admitted `ResetCfg`, with parameters in range, meets the invariants. Which components `ResetCfg` has is
log entry 4. -/
def Obligations.LegalResetMeetsInvariants : Prop :=
  ∀ (c : ResetCfg) (p : Params), c.Legal → p.InRange → Inv (State.resetWith c p)

/-- R47: the value of every register after reset, and of the outputs. -/
def Obligations.ResetRegisterValues : Prop :=
  let s := State.reset
  s.phase = 0 ∧ s.freeRunHz = 1 ∧ s.dutyCycle = 1 / 2 ∧ s.shape = .square ∧ s.range = .low ∧
  s.extClockEn = false ∧ s.lastPulseTimestamp = none ∧ s.measuredPeriodSeconds = none ∧ s.valid = false ∧
  s.ratioIndex = 8 ∧ s.pulseAge = 0 ∧ s.currentStep = 0 ∧ (∀ i : Fin 8, s.skipMask[i] = false) ∧
  s.sequenceKind = .up ∧ s.directionPhase = true ∧ s.trigSel = .internal ∧ s.prevSample = none ∧
  stepOut s = 0#3 ∧ clkValid s = false ∧ ratioOut s = 8 ∧ effFreq s = none ∧ sampleStream s = []

/-- R31: the clock-loss timer's register never exceeds 21. -/
def Obligations.StepKeepsTimerBound : Prop :=
  AgeBound State.reset ∧ ∀ s t : State, Inv s → AgeBound s → step s = .next t → AgeBound t

/-- R37: `prevSample` is the latest sample emitted, or none if none has been emitted since reset. That State holds the
sample stream is the model's (log entry 9). -/
def Obligations.StepTracksLatestSample : Prop :=
  StreamTracked State.reset ∧ ∀ s t : State, StreamTracked s → step s = .next t → StreamTracked t

/-- R20, column "written by", with R41 and R178 for the sample stream: a command that is not named there leaves the
register as it was. -/
def Obligations.RegistersHaveOnlyTheirWriters : Prop :=
  ∀ (i : Instr) (s t : State), exec i s = .next t →
    (t.phase ≠ s.phase → i.opcode = .gen ∨ i.opcode = .setphase) ∧
    (t.freeRunHz ≠ s.freeRunHz → i.opcode = .setfreq) ∧
    (t.dutyCycle ≠ s.dutyCycle → i.opcode = .setduty) ∧
    (t.shape ≠ s.shape → i.opcode = .setshape) ∧
    (t.range ≠ s.range → i.opcode = .setrange) ∧
    (t.extClockEn ≠ s.extClockEn → i.opcode = .setxclk) ∧
    (t.lastPulseTimestamp ≠ s.lastPulseTimestamp → i.opcode = .pulse) ∧
    (t.measuredPeriodSeconds ≠ s.measuredPeriodSeconds → i.opcode = .pulse) ∧
    (t.valid ≠ s.valid → i.opcode = .pulse ∨ i.opcode = .gen) ∧
    (t.ratioIndex ≠ s.ratioIndex → i.opcode = .setratio) ∧
    (t.pulseAge ≠ s.pulseAge → i.opcode = .pulse ∨ i.opcode = .gen) ∧
    (t.currentStep ≠ s.currentStep → i.opcode = .gen ∨ i.opcode = .gate ∨ i.opcode = .mstep) ∧
    (t.skipMask ≠ s.skipMask → i.opcode = .setskip) ∧
    (t.sequenceKind ≠ s.sequenceKind → i.opcode = .setseq) ∧
    (t.directionPhase ≠ s.directionPhase →
      i.opcode = .gen ∨ i.opcode = .gate ∨ i.opcode = .mstep ∨ i.opcode = .setseq) ∧
    (t.trigSel ≠ s.trigSel → i.opcode = .settrig) ∧
    (t.prevSample ≠ s.prevSample → i.opcode = .gen) ∧
    (t.sampleOut ≠ s.sampleOut → i.opcode = .gen)

/-- R25: nothing in the block reads `range`: two runs that differ only in its start value differ only in it. -/
def Obligations.RangeIsReadByNothing : Prop :=
  ∀ (is : List Instr) (s t : State) (r : FreqRange), run is s = .next t →
    ∃ r', run is { s with range := r } = .next { t with range := r' }

/-! ### Oscillator Engine (spec 40_oscillator) -/

/-- R84: SETFREQ stores the operand clamped to 1/20 and 2000, and nothing else changes. -/
def Obligations.SetfreqClampsToDeviceRange : Prop :=
  ∀ (q : Nat) (s : State),
    (q < 2 ^ 48 → decode (assembleFields 0x11 0 q) = .command (.setfreq q)) ∧
    exec (.setfreq q) s = .next { s with
      freeRunHz := if (q : Rat) / 2 ^ 32 < 1 / 20 then 1 / 20
        else if 2000 < (q : Rat) / 2 ^ 32 then 2000 else (q : Rat) / 2 ^ 32 }

/-- R85: SETDUTY stores the operand clamped to [0,1] (it cannot be negative), and nothing else changes. -/
def Obligations.SetdutyClampsToUnitInterval : Prop :=
  ∀ (q : Nat) (s : State),
    (q < 2 ^ 48 → decode (assembleFields 0x12 0 q) = .command (.setduty q)) ∧
    exec (.setduty q) s = .next { s with
      dutyCycle := if 1 < (q : Rat) / 2 ^ 32 then 1 else (q : Rat) / 2 ^ 32 }

/-- R87: SETPHASE keeps the low 32 bits of the operand as the fraction and discards the integer part. -/
def Obligations.SetphaseKeepsTheFraction : Prop :=
  ∀ (q : Nat) (s : State),
    (q < 2 ^ 48 → decode (assembleFields 0x14 0 q) = .command (.setphase q)) ∧
    exec (.setphase q) s = .next { s with phase := ((q % 2 ^ 32 : Nat) : Rat) / 2 ^ 32 }

/-- R86, R88, R106, R133: the four selector commands store what their one bit selects and nothing else. -/
def Obligations.SelectorCommandsStoreTheirSelection : Prop :=
  ∀ s : State,
    ([0x13, 0x15, 0x22, 0x34].map fun op => decode (assembleFields op 0 0)) =
      [.command (.setshape false), .command (.setrange false), .command (.setxclk false), .command (.settrig false)] ∧
    ([0x13, 0x15, 0x22, 0x34].map fun op => decode (assembleFields op 1 0)) =
      [.command (.setshape true), .command (.setrange true), .command (.setxclk true), .command (.settrig true)] ∧
    exec (.setshape false) s = .next { s with shape := .square } ∧
    exec (.setshape true) s = .next { s with shape := .triangle } ∧
    exec (.setrange false) s = .next { s with range := .low } ∧
    exec (.setrange true) s = .next { s with range := .high } ∧
    exec (.setxclk false) s = .next { s with extClockEn := false } ∧
    exec (.setxclk true) s = .next { s with extClockEn := true } ∧
    exec (.settrig false) s = .next { s with trigSel := .internal } ∧
    exec (.settrig true) s = .next { s with trigSel := .externalGate }

/-- R81: the shaper's result lies in [0,1] for every phase, duty cycle and positive `EPS`. -/
def Obligations.WaveStaysInUnitInterval : Prop :=
  ∀ (eps p d : Rat) (shape : Shape), 0 < eps → 0 ≤ p → p < 1 → 0 ≤ d → d ≤ 1 →
    0 ≤ wave eps shape p d ∧ wave eps shape p d ≤ 1

/-- R81, R92: the triangle's shape. Inside the band it is 0 at phase 0, 1 at the breakpoint, falls linearly toward 0,
and changes no faster than its steeper slope; the value at the breakpoint is 1 for every duty below 1; duty 0 and
duty 1 are the two ramps. -/
def Obligations.TriangleMeetsItsCorners : Prop :=
  ∀ eps : Rat, 0 < eps → eps < 1 →
    (∀ d : Rat, eps ≤ d → d ≤ 1 - eps →
      wave eps .triangle 0 d = 0 ∧
      (∀ p, d ≤ p → p < 1 → wave eps .triangle p d = (1 - p) / (1 - d)) ∧
      (∀ p q, 0 ≤ p → p < 1 → 0 ≤ q → q < 1 →
        |wave eps .triangle p d - wave eps .triangle q d| ≤ |p - q| * max (1 / d) (1 / (1 - d)))) ∧
    (∀ d : Rat, 0 ≤ d → d < 1 → wave eps .triangle d d = 1) ∧
    (∀ p : Rat, 0 ≤ p → p < 1 → wave eps .triangle p 0 = 1 - p ∧ wave eps .triangle p 1 = p)

/-- R81, R82, R107, R128: one SAMPLE, written out. The timer runs first; the frequency is the slaved one exactly when
external-clock mode is on and the clock is still valid; the phase is the number in [0,1) that differs from
`phase + f/sr` by an integer; the sample is shaped from it and emitted; a rising edge in Internal mode does what MSTEP
does, anything else stops there. That EPS and EDGE_TH stand in State is the model's choice (log entry 3). -/
def Obligations.OneSampleFollowsTheAlgorithm : Prop :=
  ∀ (s : State) (sr : Nat) (f ph : Rat) (k : Int), 0 < sr →
    let age := if s.valid then s.pulseAge + 1 / (sr : Rat) else s.pulseAge
    let ok := s.valid && decide (age ≤ 20)
    (if s.extClockEn && ok then ∃ p, s.measuredPeriodSeconds = some p ∧ f = ratio s.ratioIndex / p
      else f = s.freeRunHz) →
    0 ≤ ph → ph < 1 → s.phase + f / (sr : Rat) = ph + k →
    let v : Rat :=
      match s.shape with
      | .square => if ph < s.dutyCycle then 1 else 0
      | .triangle =>
        if ph < s.dutyCycle then ph / max s.dutyCycle s.params.eps
        else 1 - (ph - s.dutyCycle) / max (1 - s.dutyCycle) s.params.eps
    let u : State := { s with
      pulseAge := age, valid := ok, phase := ph, sampleOut := s.sampleOut ++ [v], prevSample := some v }
    let fires := (∃ q, s.prevSample = some q ∧ q < s.params.edgeTh) ∧ s.params.edgeTh ≤ v ∧ s.trigSel = .internal
    (fires → exec (.gen sr 1) s = exec .mstep u) ∧ (¬ fires → exec (.gen sr 1) s = .next u)

/-- R83: GEN with `sr = 0` is ignored; otherwise it is SAMPLE repeated `n` times, none for `n = 0`. -/
def Obligations.GenRepeatsSamples : Prop :=
  ∀ (sr n : Nat) (s : State),
    (sr < 2 ^ 32 → n < 2 ^ 16 → decode (assembleFields 0x10 0 (sr * 2 ^ 16 + n)) = .command (.gen sr n)) ∧
    exec (.gen 0 n) s = .next s ∧
    exec (.gen sr 0) s = .next s ∧
    (sr ≠ 0 → ∃ t, exec (.gen sr 1) s = .next t ∧ exec (.gen sr (n + 1)) s = exec (.gen sr n) t)

/-- R90: a buffer can be split anywhere without changing the state, the samples or the draws. -/
def Obligations.GenSplitsAnywhere : Prop :=
  ∀ (sr a b : Nat) (s : State), run [.gen sr (a + b)] s = run [.gen sr a, .gen sr b] s

/-- R41, R83, R89: a GEN that is not rejected appends exactly `n` samples, each in [0,1], and leaves the phase in
[0,1). -/
def Obligations.GenEmitsItsSamples : Prop :=
  ∀ (sr n : Nat) (s : State), Inv s → sr ≠ 0 →
    ∃ (t : State) (l : List Rat), exec (.gen sr n) s = .next t ∧ t.sampleOut = s.sampleOut ++ l ∧
      l.length = n ∧ (∀ v ∈ l, 0 ≤ v ∧ v ≤ 1) ∧ 0 ≤ t.phase ∧ t.phase < 1

/-- R82, R83, R128: what GEN leaves unchanged. Every parameter register; the sequencer's position in ExternalGate mode;
the timer while the clock is not valid. -/
def Obligations.GenFrame : Prop :=
  ∀ (sr n : Nat) (s : State), ∃ t, exec (.gen sr n) s = .next t ∧
    t.freeRunHz = s.freeRunHz ∧ t.dutyCycle = s.dutyCycle ∧ t.shape = s.shape ∧ t.range = s.range ∧
    t.extClockEn = s.extClockEn ∧ t.lastPulseTimestamp = s.lastPulseTimestamp ∧
    t.measuredPeriodSeconds = s.measuredPeriodSeconds ∧ t.ratioIndex = s.ratioIndex ∧
    t.skipMask = s.skipMask ∧ t.sequenceKind = s.sequenceKind ∧ t.trigSel = s.trigSel ∧
    t.port = s.port ∧ t.params = s.params ∧
    (s.trigSel = .externalGate →
      t.currentStep = s.currentStep ∧ t.directionPhase = s.directionPhase ∧ t.drawCount = s.drawCount) ∧
    (s.valid = false → t.valid = false ∧ t.pulseAge = s.pulseAge)

/-- R91: with an increment of `1/N` from a phase that is a multiple of `1/N`, a square wave of duty `d` has
`ceil(d N)` ones in any `N` consecutive samples, which differs from `d N` by less than one. -/
def Obligations.SquareDutyFraction : Prop :=
  ∀ (s : State) (sr N j : Nat), Inv s → s.shape = .square → (s.extClockEn = false ∨ s.valid = false) →
    0 < sr → 0 < N → s.freeRunHz * N = sr → j < N → s.phase = (j : Rat) / N →
    ∃ (t : State) (l : List Rat), exec (.gen sr N) s = .next t ∧ t.sampleOut = s.sampleOut ++ l ∧
      l.length = N ∧ (l.count 1 : Int) = ⌈s.dutyCycle * N⌉ ∧
      (l.count 1 : Rat) < s.dutyCycle * N + 1 ∧ s.dutyCycle * N ≤ (l.count 1 : Rat)

/-- R128: a square wave of duty 0, or of duty 1 whose previous sample is not below the threshold, makes no rising edge,
so GEN never moves the sequencer. -/
def Obligations.ConstantSquareNeverAdvances : Prop :=
  ∀ (sr n : Nat) (s : State), s.params.InRange → s.shape = .square →
    (s.dutyCycle = 0 ∨ (s.dutyCycle = 1 ∧ ∀ q, s.prevSample = some q → s.params.edgeTh ≤ q)) →
    ∃ t, exec (.gen sr n) s = .next t ∧ t.currentStep = s.currentStep ∧
      t.directionPhase = s.directionPhase ∧ t.drawCount = s.drawCount

/-- R82, R89: `n` samples move the phase by `n f / sr` modulo 1, where `f` is the free-running frequency while the LFO
is not slaved, and the clock's frequency times the ratio while it stays slaved. -/
def Obligations.PhaseAdvancesByTheSelectedFrequency : Prop :=
  ∀ (sr n : Nat) (s : State), Inv s → sr ≠ 0 →
    ((s.extClockEn = false ∨ s.valid = false) →
      ∃ (t : State) (k : Nat), exec (.gen sr n) s = .next t ∧
        t.phase + k = s.phase + n * (s.freeRunHz / sr) ∧ 0 ≤ t.phase ∧ t.phase < 1) ∧
    (∀ p, s.extClockEn = true → s.valid = true → s.measuredPeriodSeconds = some p →
      s.pulseAge + n / sr ≤ 20 →
      ∃ (t : State) (k : Nat), exec (.gen sr n) s = .next t ∧
        t.phase + k = s.phase + n * (ratio s.ratioIndex / p / sr) ∧ 0 ≤ t.phase ∧ t.phase < 1)

/-! ### Clock Sync Unit (spec 41_clock_sync) -/

/-- R107: from a valid clock, `n` samples keep it valid exactly while the accounted time is at most 20 s; the measured
period and the timestamp stay. -/
def Obligations.TimerExpiresAfterTheWindow : Prop :=
  ∀ (sr n : Nat) (s : State), Inv s → s.valid = true → sr ≠ 0 →
    ∃ t, exec (.gen sr n) s = .next t ∧
      (t.valid = true ↔ s.pulseAge + n / sr ≤ 20) ∧
      (t.valid = true → t.pulseAge = s.pulseAge + n / sr) ∧
      t.measuredPeriodSeconds = s.measuredPeriodSeconds ∧ t.lastPulseTimestamp = s.lastPulseTimestamp

/-- R103: the four cases of PULSE, with the whole state each leaves. -/
def Obligations.PulseMeasuresThePeriod : Prop :=
  ∀ (q : Nat) (s : State),
    let t : Rat := (q : Rat) / 2 ^ 16
    (q < 2 ^ 48 → decode (assembleFields 0x20 0 q) = .command (.pulse q)) ∧
    (s.lastPulseTimestamp = none →
      exec (.pulse q) s = .next { s with lastPulseTimestamp := some t, valid := false, pulseAge := 0 }) ∧
    ∀ t0, s.lastPulseTimestamp = some t0 →
      (t ≤ t0 → exec (.pulse q) s = .next s) ∧
      (t0 + 20 < t →
        exec (.pulse q) s = .next { s with lastPulseTimestamp := some t, valid := false, pulseAge := 0 }) ∧
      (t0 < t → t ≤ t0 + 20 →
        exec (.pulse q) s = .next { s with
          lastPulseTimestamp := some t, measuredPeriodSeconds := some (t - t0), valid := true, pulseAge := 0 })

/-- R103, R104, R108: two pulses at most 20 s apart, the first of them accepted, lock the unit, and the effective
frequency is the ratio over the time between them. -/
def Obligations.PulsePairLocksTheFrequency : Prop :=
  ∀ (q1 q2 : Nat) (s : State), q1 < q2 → q2 ≤ q1 + 20 * 2 ^ 16 →
    TimestampIncreases s q1 →
    ∃ t, run [.pulse q1, .pulse q2] s = .next t ∧ situation t = .locked ∧ clkValid t = true ∧ t.pulseAge = 0 ∧
      effFreq t = some (ratio s.ratioIndex * 2 ^ 16 / ((q2 : Rat) - q1))

/-- R103, R107, with 70_reset_and_hazards section 3: while the host keeps one time base and pulses come at most 20 s apart, the samples between two
pulses never lose the lock, and the second pulse measures the time between them. What "one time base" demands is the
model's reading (`OneTimeBase`, log entry 15): at most the time between the pulses, in one GEN at one rate. -/
def Obligations.OneTimeBaseKeepsTheLock : Prop :=
  ∀ (sr n q1 q2 : Nat) (s : State), s.valid = true → s.lastPulseTimestamp = some (q32_16 q1) → s.pulseAge = 0 →
    sr ≠ 0 → q1 < q2 → q2 ≤ q1 + 20 * 2 ^ 16 → OneTimeBase sr n q1 q2 →
    ∃ u t, exec (.gen sr n) s = .next u ∧ u.valid = true ∧ exec (.pulse q2) u = .next t ∧ t.valid = true ∧
      t.measuredPeriodSeconds = some (q32_16 q2 - q32_16 q1)

/-- R100, R105: SETRATIO stores the index clamped to 16 and nothing else, and the ratio table has its closed form. -/
def Obligations.SetratioSelectsTheRatio : Prop :=
  (∀ (k : Nat) (s : State),
    (k < 2 ^ 8 → decode (assembleFields 0x21 k 0) = .command (.setratio k)) ∧
    ∃ i : Fin 17, (i.val = if k ≤ 16 then k else 16) ∧ exec (.setratio k) s = .next { s with ratioIndex := i }) ∧
  ∀ i : Fin 17, ratio i = if i.val ≤ 7 then 1 / (9 - (i.val : Rat)) else (i.val : Rat) - 7

/-- R108: the situation changes only along the arrows of the lifecycle, and only by PULSE, or by GEN on timer expiry. -/
def Obligations.LifecycleMovesOnlyAsDrawn : Prop :=
  ∀ (i : Instr) (s t : State), Inv s → exec i s = .next t →
    situation t = situation s ∨
    (i.opcode = .pulse ∧ situation s = .idle ∧ situation t = .armed) ∨
    (i.opcode = .pulse ∧ situation s = .armed ∧ situation t = .locked) ∨
    ((i.opcode = .pulse ∨ i.opcode = .gen) ∧ situation s = .locked ∧ situation t = .armed)

/-- R104: `eff_freq` is none while the clock is not valid, else the ratio times the measured clock, at least 1/180 Hz;
it does not depend on `extClockEn`. -/
def Obligations.EffFreqIsTheScaledClock : Prop :=
  ∀ s : State, Inv s →
    (s.valid = false → effFreq s = none) ∧
    (s.valid = true → ∃ p f, s.measuredPeriodSeconds = some p ∧ effFreq s = some f ∧
      f * p = ratio s.ratioIndex ∧ 1 / 180 ≤ f) ∧
    ∀ b, effFreq { s with extClockEn := b } = effFreq s

/-! ### Sequencer State Machine (spec 42_sequencer) -/

/-- R122: `Lo()` and `Hi()` are the least and the greatest active index, none when every step is skipped. -/
def Obligations.BoundaryHelpersFindTheExtremes : Prop :=
  ∀ mask : Vector Bool 8,
    (∀ i : Fin 8, lowestActive mask = some i ↔ mask[i] = false ∧ ∀ j : Fin 8, j < i → mask[j] = true) ∧
    (∀ i : Fin 8, highestActive mask = some i ↔ mask[i] = false ∧ ∀ j : Fin 8, i < j → mask[j] = true) ∧
    (lowestActive mask = none ↔ ∀ i : Fin 8, mask[i] = true) ∧
    (highestActive mask = none ↔ ∀ i : Fin 8, mask[i] = true)

/-- R134, R135, R137 to R140: one application of each rule but UpDown, the index as a number modulo 8. -/
def Obligations.SteppingRulesMoveAsTheTableSays : Prop :=
  ∀ (mask : Vector Bool 8) (d c : Fin 8) (ph : Bool),
    let at' := fun kind => applyRule mask d kind c ph
    ((at' .up).1.val = (c.val + 1) % 8 ∧ (at' .up).2 = ph) ∧
    ((at' .down).1.val = (c.val + 7) % 8 ∧ (at' .down).2 = ph) ∧
    at' .random = (d, ph) ∧
    ((at' .p2m1).1.val = (if ph then c.val + 2 else c.val + 7) % 8 ∧ (at' .p2m1).2 = !ph) ∧
    ((at' .p1m2).1.val = (if ph then c.val + 1 else c.val + 6) % 8 ∧ (at' .p1m2).2 = !ph) ∧
    ((at' .m3p5).1.val = (c.val + 5) % 8 ∧ (at' .m3p5).2 = !ph)

/-- R136: UpDown turns forward at the lowest active index and backward at the highest (which wins where they coincide),
before it moves; anywhere else it keeps its direction. -/
def Obligations.UpdownTurnsAtTheBoundary : Prop :=
  ∀ (mask : Vector Bool 8) (d c : Fin 8) (ph : Bool),
    let lowest := mask[c] = false ∧ ∀ j : Fin 8, j < c → mask[j] = true
    let highest := mask[c] = false ∧ ∀ j : Fin 8, c < j → mask[j] = true
    let r := applyRule mask d .upDown c ph
    (highest → r.1.val = (c.val + 7) % 8 ∧ r.2 = false) ∧
    (lowest → ¬ highest → r.1.val = (c.val + 1) % 8 ∧ r.2 = true) ∧
    (¬ lowest → ¬ highest → r.1.val = (if ph then c.val + 1 else c.val + 7) % 8 ∧ r.2 = ph)

/-- R123, R126, R130, R137: MSTEP commits the first of at most eight chained probes that lands on an active step, step and direction
together; if all eight land on skipped steps no register is written. The count of draws is the model's own field (log
entry 2), no register. -/
def Obligations.AdvanceCommitsTheFirstActiveProbe : Prop :=
  decode 0x3100000000000000#64 = .command .mstep ∧
  ∀ s : State,
    (∀ k, 1 ≤ k → k ≤ 8 →
      (∀ j, 1 ≤ j → j < k → s.skipMask[(chained Config.draw s j).1] = true) →
      s.skipMask[(chained Config.draw s k).1] = false →
      exec .mstep s = .next { s with
        currentStep := (chained Config.draw s k).1
        directionPhase := (chained Config.draw s k).2
        drawCount := s.drawCount + (if s.sequenceKind = .random then k else 0) }) ∧
    ((∀ j, 1 ≤ j → j ≤ 8 → s.skipMask[(chained Config.draw s j).1] = true) →
      exec .mstep s = .next { s with
        drawCount := s.drawCount + (if s.sequenceKind = .random then 8 else 0) })

/-- R129: GATE is ignored in Internal mode and does what MSTEP does in ExternalGate mode. -/
def Obligations.GateFollowsTheTriggerMode : Prop :=
  decode 0x3000000000000000#64 = .command .gate ∧
  ∀ s : State,
    (s.trigSel = .internal → exec .gate s = .next s) ∧
    (s.trigSel = .externalGate → ∃ t, exec .mstep s = .next t ∧ exec .gate s = .next t)

/-- R127: Up, Down, UpDown and M3P5 commit whenever at least one step is active. -/
def Obligations.ActiveStepIsAlwaysFound : Prop :=
  ∀ s : State,
    (s.sequenceKind = .up ∨ s.sequenceKind = .down ∨ s.sequenceKind = .upDown ∨ s.sequenceKind = .m3p5) →
    (∃ i : Fin 8, s.skipMask[i] = false) →
    ∃ t, exec .mstep s = .next t ∧ t.skipMask[t.currentStep] = false

/-- R127: the offsets from the start index that probes 1 to 8 reach with no commit, for every kind whose moves do not
depend on the mask or on draws. -/
def Obligations.ProbeOffsetsAreTheTable : Prop :=
  ∀ (draw : Nat → Fin 8) (s : State),
    let reached := (List.range 8).map fun k => (chained draw s (k + 1)).1.val
    let from' := fun offsets : List Nat => offsets.map fun o => (s.currentStep.val + o) % 8
    (s.sequenceKind = .up → reached = from' [1, 2, 3, 4, 5, 6, 7, 0]) ∧
    (s.sequenceKind = .down → reached = from' [7, 6, 5, 4, 3, 2, 1, 0]) ∧
    (s.sequenceKind = .p2m1 → s.directionPhase = true → reached = from' [2, 1, 3, 2, 4, 3, 5, 4]) ∧
    (s.sequenceKind = .p2m1 → s.directionPhase = false → reached = from' [7, 1, 0, 2, 1, 3, 2, 4]) ∧
    (s.sequenceKind = .p1m2 → s.directionPhase = true → reached = from' [1, 7, 0, 6, 7, 5, 6, 4]) ∧
    (s.sequenceKind = .p1m2 → s.directionPhase = false → reached = from' [6, 7, 5, 6, 4, 5, 3, 4]) ∧
    (s.sequenceKind = .m3p5 → reached = from' [5, 2, 7, 4, 1, 6, 3, 0])

/-- R126, R137: Random takes one draw per probe and commits the first drawn index that is active, whatever the answers
are; eight draws on skipped steps give up. The numbering of the draws is the model's (log entry 2). -/
def Obligations.RandomLandsOnItsDraws : Prop :=
  ∀ s : State, s.sequenceKind = .random →
    (∀ k, k < 8 → (∀ j, j < k → s.skipMask[Config.draw (s.drawCount + j)] = true) →
      s.skipMask[Config.draw (s.drawCount + k)] = false →
      exec .mstep s = .next { s with
        currentStep := Config.draw (s.drawCount + k), drawCount := s.drawCount + k + 1 }) ∧
    ((∀ j, j < 8 → s.skipMask[Config.draw (s.drawCount + j)] = true) →
      exec .mstep s = .next { s with drawCount := s.drawCount + 8 })

/-- R126, R141 property 10: with every step skipped an advance writes no register, whatever the kind. -/
def Obligations.AllSkippedHolds : Prop :=
  ∀ s : State, (∀ i : Fin 8, s.skipMask[i] = true) →
    ∃ t, exec .mstep s = .next t ∧ t = { s with drawCount := t.drawCount }

/-- R32, R126: whatever command moves the sequencer, it comes to stand on an active step. -/
def Obligations.MovesEndOnActiveSteps : Prop :=
  ∀ (i : Instr) (s t : State), exec i s = .next t → t.currentStep ≠ s.currentStep →
    t.skipMask[t.currentStep] = false

/-- R141 property 7: UpDown over eight active steps sweeps 0 to 7 and back, for ever. -/
def Obligations.UpdownSweepsAllSteps : Prop :=
  ∀ (n : Nat) (s : State), s.sequenceKind = .upDown → (∀ i : Fin 8, s.skipMask[i] = false) →
    s.currentStep = 0 → s.directionPhase = true →
    ∃ t, run (List.replicate n .mstep) s = .next t ∧
      t.currentStep.val = if n % 14 ≤ 7 then n % 14 else 14 - n % 14

/-- R141 property 8: +2-1 from step 0 and the forward phase climbs 0, 2, 1, 3, 2, 4, 3, 5, ... modulo 8. -/
def Obligations.PlusTwoMinusOneClimbs : Prop :=
  ∀ (n : Nat) (s : State), s.sequenceKind = .p2m1 → (∀ i : Fin 8, s.skipMask[i] = false) →
    s.currentStep = 0 → s.directionPhase = true →
    ∃ t, run (List.replicate n .mstep) s = .next t ∧
      t.currentStep.val = (if n % 2 = 0 then n / 2 else n / 2 + 2) % 8

/-- R131: SETSKIP writes the one flag it names; an index above 7 is rejected; nothing else changes, the current step
included. -/
def Obligations.SetskipWritesOneFlag : Prop :=
  ∀ (k : Nat) (flag : Bool) (s : State),
    (k < 2 ^ 8 → decode (assembleFields 0x32 k flag.toNat) = .command (.setskip k flag)) ∧
    (7 < k → exec (.setskip k flag) s = .next s) ∧
    (k ≤ 7 → ∃ mask : Vector Bool 8, exec (.setskip k flag) s = .next { s with skipMask := mask } ∧
      ∀ i : Fin 8, mask[i] = if i.val = k then flag else s.skipMask[i])

/-- R120, R132: SETSEQ rejects ordinals from 7 on, leaves all as it is when the kind is already selected, and otherwise
stores the kind of the ordinal and resets the direction to forward. -/
def Obligations.SetseqChangesTheKind : Prop :=
  ∀ (k : Nat) (s : State),
    (k < 2 ^ 8 → decode (assembleFields 0x33 k 0) = .command (.setseq k)) ∧
    (7 ≤ k → exec (.setseq k) s = .next s) ∧
    ∀ h : k < 7,
      let kind : SeqKind := [.up, .down, .upDown, .random, .p2m1, .p1m2, .m3p5][k]
      (s.sequenceKind = kind → exec (.setseq k) s = .next s) ∧
      (s.sequenceKind ≠ kind →
        exec (.setseq k) s = .next { s with sequenceKind := kind, directionPhase := true })

/-! ### The SET commands together (spec 20_memory R54, 70_reset_and_hazards R172) -/

/-- R54: issuing a SET command twice in a row leaves the same state as issuing it once. -/
def Obligations.SetCommandsAreIdempotent : Prop :=
  ∀ (i : Instr) (s : State), isSetCommand i = true → ∃ t, run [i, i] s = .next t ∧ run [i] s = .next t

/-- R172: SET commands of different kinds are independent: their order does not matter. -/
def Obligations.SetCommandsCommute : Prop :=
  ∀ (i j : Instr) (s : State), isSetCommand i = true → isSetCommand j = true → i.opcode ≠ j.opcode →
    ∃ t, run [i, j] s = .next t ∧ run [j, i] s = .next t
end

