-- ==== Sys2Proof/Laws/Arith.lean ====
section
/-! SUPPORT. The arithmetic primitives of spec 00_scope R10 and the operand values of 30_encoding R63: what each answers. -/

namespace Sys2Proof.Machine

/-- `frac` is the library's fractional part, so the library's lemmas about it apply. -/
theorem frac_eq_fract (x : Rat) : frac x = Int.fract x := rfl

theorem frac_nonneg (x : Rat) : 0 ≤ frac x := by rw [frac_eq_fract]; exact Int.fract_nonneg x

theorem frac_lt_one (x : Rat) : frac x < 1 := by rw [frac_eq_fract]; exact Int.fract_lt_one x

/-- `frac x` is the only number in [0,1) that differs from `x` by an integer. -/
theorem frac_unique {x y : Rat} {k : Int} (h0 : 0 ≤ y) (h1 : y < 1) (h : x = y + k) : frac x = y := by
  rw [frac_eq_fract, Int.fract_eq_iff]
  exact ⟨h0, h1, k, by rw [h]; ring⟩

theorem frac_add_floor (x : Rat) : frac x + (x.floor : Rat) = x := by unfold frac; ring

theorem clamp_of_lt {x lo hi : Rat} (h : x < lo) (hlh : lo ≤ hi) : clamp x lo hi = lo := by
  unfold clamp; rw [max_eq_right h.le, min_eq_left hlh]

theorem clamp_of_gt {x lo hi : Rat} (h : hi < x) : clamp x lo hi = hi := by
  unfold clamp; exact min_eq_right (h.le.trans (le_max_left x lo))

theorem clamp_of_mem {x lo hi : Rat} (h1 : lo ≤ x) (h2 : x ≤ hi) : clamp x lo hi = x := by
  unfold clamp; rw [max_eq_left h1, min_eq_left h2]

theorem clamp_ge {x lo hi : Rat} (h : lo ≤ hi) : lo ≤ clamp x lo hi :=
  le_min (le_max_right x lo) h

theorem clamp_le (x lo hi : Rat) : clamp x lo hi ≤ hi := min_le_right _ _

/-- A step index as a number, with the bound written out for arithmetic (R6, R32). -/
theorem step_val_lt (c : Fin nSteps) : c.val < 8 := c.isLt

/-- A ratio index as a number, with the bound written out for arithmetic (R6, R30). -/
theorem ratioIndex_val_lt (i : Fin nRatios) : i.val < 17 := i.isLt

/-- Of the eight ordinals exactly the implemented ones name an algorithm (R6, R120). -/
theorem kindOf_eq_none (k : Nat) : kindOf k = none ↔ nImplementedKinds ≤ k := by
  by_cases h : k < 8
  · interval_cases k <;> decide
  · have h' : ¬ k < nKinds := h
    simp only [kindOf, h', dite_false, true_iff]
    exact Nat.le_of_lt (Nat.lt_of_lt_of_le (by decide) (Nat.not_lt.mp h))

/-- `mod8` answers the residue the integers' remainder gives (R10). -/
theorem mod8_val (z : Int) : ((mod8 z).val : Int) = z % 8 := by
  have h0 := Int.emod_nonneg z (by decide : (8 : Int) ≠ 0)
  have h1 := Int.emod_lt_of_pos z (by decide : (0 : Int) < 8)
  show ((Fin.ofNat 8 (z % 8).toNat).val : Int) = z % 8
  rw [Fin.val_ofNat, Nat.mod_eq_of_lt (by omega)]
  omega

theorem q16_32_nonneg (q : Nat) : 0 ≤ q16_32 q := by unfold q16_32; positivity

theorem q32_16_nonneg (q : Nat) : 0 ≤ q32_16 q := by unfold q32_16; positivity

theorem q32_16_sub (a b : Nat) : q32_16 a - q32_16 b = ((a : Rat) - b) / 65536 := by unfold q32_16; ring

theorem ratioIndexOf_val (k : Nat) : (ratioIndexOf k).val = min k 16 := by
  show (Fin.ofNat 17 (min k 16)).val = min k 16
  rw [Fin.val_ofNat]; omega

theorem ratio_pos (i : Fin nRatios) : 0 < ratio i := by
  revert i; decide +kernel

end Sys2Proof.Machine
end

