-- ==== Sys2Proof/Laws/Decode.lean ====
section
/-! SUPPORT. What the decoder can answer, said once (spec 30_encoding R65), and the ranges of fields. -/

namespace Sys2Proof

theorem bits_lt (w : Word) (hi lo : Nat) : bits w hi lo < 2 ^ (hi + 1 - lo) := Nat.mod_lt _ (Nat.two_pow_pos _)

theorem Opcode.byte_injective {o p : Opcode} (h : o.byte = p.byte) : o = p := by
  cases o <;> cases p <;> first | rfl | exact absurd h (by decide)

/-- A row is found exactly when the opcode byte is its own (R65 step 2). -/
theorem opcodeOf_eq_some {op : Nat} {o : Opcode} : opcodeOf op = some o ↔ op = o.byte := by
  constructor
  · intro h
    unfold opcodeOf at h
    have hb := List.find?_some h
    exact (beq_iff_eq.mp hb).symm
  · rintro rfl
    cases o <;> rfl

theorem opcodeOf_eq_none {op : Nat} : opcodeOf op = none ↔ ∀ o : Opcode, op ≠ o.byte := by
  rw [Option.eq_none_iff_forall_ne_some]
  exact forall_congr' fun o => not_congr opcodeOf_eq_some

/-- The three answers of the decoder: no such opcode, a must-be-zero bit set, or the row's command (R65, R67). -/
theorem decode_cases (w : Word) :
    ((∀ o : Opcode, bits w 63 56 ≠ o.byte) ∧ decode w = .reserved (.unassignedOpcode (bits w 63 56))) ∨
    ∃ o : Opcode, bits w 63 56 = o.byte ∧
      ((mustBeZeroClear o.format w = false ∧ decode w = .reserved (.mustBeZero o.byte)) ∨
       (mustBeZeroClear o.format w = true ∧ decode w = .command (extract o w))) := by
  unfold decode
  cases h : opcodeOf (bits w 63 56) with
  | none => exact .inl ⟨opcodeOf_eq_none.mp h, rfl⟩
  | some o =>
    have hb := opcodeOf_eq_some.mp h
    refine .inr ⟨o, hb, ?_⟩
    cases hm : mustBeZeroClear o.format w with
    | false => exact .inl ⟨rfl, by simp [hm, hb]⟩
    | true => exact .inr ⟨rfl, by simp [hm]⟩

end Sys2Proof
end

