-- ==== Sys2Proof/Laws/State.lean ====
section
/-! SUPPORT. What each named write of a register leaves in each field of the state: one lemma per field per write, all
true by definition, so that no proof unfolds a record update. -/

namespace Sys2Proof.Machine

variable (s : State)

/-! ### setPhase -/

@[simp] theorem State.setPhase_phase (v : Rat) : (s.setPhase v).phase = v := rfl
@[simp] theorem State.setPhase_freeRunHz (v : Rat) : (s.setPhase v).freeRunHz = s.freeRunHz := rfl
@[simp] theorem State.setPhase_dutyCycle (v : Rat) : (s.setPhase v).dutyCycle = s.dutyCycle := rfl
@[simp] theorem State.setPhase_shape (v : Rat) : (s.setPhase v).shape = s.shape := rfl
@[simp] theorem State.setPhase_range (v : Rat) : (s.setPhase v).range = s.range := rfl
@[simp] theorem State.setPhase_extClockEn (v : Rat) : (s.setPhase v).extClockEn = s.extClockEn := rfl
@[simp] theorem State.setPhase_lastPulseTimestamp (v : Rat) : (s.setPhase v).lastPulseTimestamp = s.lastPulseTimestamp := rfl
@[simp] theorem State.setPhase_measuredPeriodSeconds (v : Rat) : (s.setPhase v).measuredPeriodSeconds = s.measuredPeriodSeconds := rfl
@[simp] theorem State.setPhase_valid (v : Rat) : (s.setPhase v).valid = s.valid := rfl
@[simp] theorem State.setPhase_ratioIndex (v : Rat) : (s.setPhase v).ratioIndex = s.ratioIndex := rfl
@[simp] theorem State.setPhase_pulseAge (v : Rat) : (s.setPhase v).pulseAge = s.pulseAge := rfl
@[simp] theorem State.setPhase_currentStep (v : Rat) : (s.setPhase v).currentStep = s.currentStep := rfl
@[simp] theorem State.setPhase_skipMask (v : Rat) : (s.setPhase v).skipMask = s.skipMask := rfl
@[simp] theorem State.setPhase_sequenceKind (v : Rat) : (s.setPhase v).sequenceKind = s.sequenceKind := rfl
@[simp] theorem State.setPhase_directionPhase (v : Rat) : (s.setPhase v).directionPhase = s.directionPhase := rfl
@[simp] theorem State.setPhase_trigSel (v : Rat) : (s.setPhase v).trigSel = s.trigSel := rfl
@[simp] theorem State.setPhase_prevSample (v : Rat) : (s.setPhase v).prevSample = s.prevSample := rfl
@[simp] theorem State.setPhase_sampleOut (v : Rat) : (s.setPhase v).sampleOut = s.sampleOut := rfl
@[simp] theorem State.setPhase_port (v : Rat) : (s.setPhase v).port = s.port := rfl
@[simp] theorem State.setPhase_drawCount (v : Rat) : (s.setPhase v).drawCount = s.drawCount := rfl
@[simp] theorem State.setPhase_params (v : Rat) : (s.setPhase v).params = s.params := rfl

/-! ### setFreeRunHz -/

@[simp] theorem State.setFreeRunHz_phase (v : Rat) : (s.setFreeRunHz v).phase = s.phase := rfl
@[simp] theorem State.setFreeRunHz_freeRunHz (v : Rat) : (s.setFreeRunHz v).freeRunHz = v := rfl
@[simp] theorem State.setFreeRunHz_dutyCycle (v : Rat) : (s.setFreeRunHz v).dutyCycle = s.dutyCycle := rfl
@[simp] theorem State.setFreeRunHz_shape (v : Rat) : (s.setFreeRunHz v).shape = s.shape := rfl
@[simp] theorem State.setFreeRunHz_range (v : Rat) : (s.setFreeRunHz v).range = s.range := rfl
@[simp] theorem State.setFreeRunHz_extClockEn (v : Rat) : (s.setFreeRunHz v).extClockEn = s.extClockEn := rfl
@[simp] theorem State.setFreeRunHz_lastPulseTimestamp (v : Rat) : (s.setFreeRunHz v).lastPulseTimestamp = s.lastPulseTimestamp := rfl
@[simp] theorem State.setFreeRunHz_measuredPeriodSeconds (v : Rat) : (s.setFreeRunHz v).measuredPeriodSeconds = s.measuredPeriodSeconds := rfl
@[simp] theorem State.setFreeRunHz_valid (v : Rat) : (s.setFreeRunHz v).valid = s.valid := rfl
@[simp] theorem State.setFreeRunHz_ratioIndex (v : Rat) : (s.setFreeRunHz v).ratioIndex = s.ratioIndex := rfl
@[simp] theorem State.setFreeRunHz_pulseAge (v : Rat) : (s.setFreeRunHz v).pulseAge = s.pulseAge := rfl
@[simp] theorem State.setFreeRunHz_currentStep (v : Rat) : (s.setFreeRunHz v).currentStep = s.currentStep := rfl
@[simp] theorem State.setFreeRunHz_skipMask (v : Rat) : (s.setFreeRunHz v).skipMask = s.skipMask := rfl
@[simp] theorem State.setFreeRunHz_sequenceKind (v : Rat) : (s.setFreeRunHz v).sequenceKind = s.sequenceKind := rfl
@[simp] theorem State.setFreeRunHz_directionPhase (v : Rat) : (s.setFreeRunHz v).directionPhase = s.directionPhase := rfl
@[simp] theorem State.setFreeRunHz_trigSel (v : Rat) : (s.setFreeRunHz v).trigSel = s.trigSel := rfl
@[simp] theorem State.setFreeRunHz_prevSample (v : Rat) : (s.setFreeRunHz v).prevSample = s.prevSample := rfl
@[simp] theorem State.setFreeRunHz_sampleOut (v : Rat) : (s.setFreeRunHz v).sampleOut = s.sampleOut := rfl
@[simp] theorem State.setFreeRunHz_port (v : Rat) : (s.setFreeRunHz v).port = s.port := rfl
@[simp] theorem State.setFreeRunHz_drawCount (v : Rat) : (s.setFreeRunHz v).drawCount = s.drawCount := rfl
@[simp] theorem State.setFreeRunHz_params (v : Rat) : (s.setFreeRunHz v).params = s.params := rfl

/-! ### setDutyCycle -/

@[simp] theorem State.setDutyCycle_phase (v : Rat) : (s.setDutyCycle v).phase = s.phase := rfl
@[simp] theorem State.setDutyCycle_freeRunHz (v : Rat) : (s.setDutyCycle v).freeRunHz = s.freeRunHz := rfl
@[simp] theorem State.setDutyCycle_dutyCycle (v : Rat) : (s.setDutyCycle v).dutyCycle = v := rfl
@[simp] theorem State.setDutyCycle_shape (v : Rat) : (s.setDutyCycle v).shape = s.shape := rfl
@[simp] theorem State.setDutyCycle_range (v : Rat) : (s.setDutyCycle v).range = s.range := rfl
@[simp] theorem State.setDutyCycle_extClockEn (v : Rat) : (s.setDutyCycle v).extClockEn = s.extClockEn := rfl
@[simp] theorem State.setDutyCycle_lastPulseTimestamp (v : Rat) : (s.setDutyCycle v).lastPulseTimestamp = s.lastPulseTimestamp := rfl
@[simp] theorem State.setDutyCycle_measuredPeriodSeconds (v : Rat) : (s.setDutyCycle v).measuredPeriodSeconds = s.measuredPeriodSeconds := rfl
@[simp] theorem State.setDutyCycle_valid (v : Rat) : (s.setDutyCycle v).valid = s.valid := rfl
@[simp] theorem State.setDutyCycle_ratioIndex (v : Rat) : (s.setDutyCycle v).ratioIndex = s.ratioIndex := rfl
@[simp] theorem State.setDutyCycle_pulseAge (v : Rat) : (s.setDutyCycle v).pulseAge = s.pulseAge := rfl
@[simp] theorem State.setDutyCycle_currentStep (v : Rat) : (s.setDutyCycle v).currentStep = s.currentStep := rfl
@[simp] theorem State.setDutyCycle_skipMask (v : Rat) : (s.setDutyCycle v).skipMask = s.skipMask := rfl
@[simp] theorem State.setDutyCycle_sequenceKind (v : Rat) : (s.setDutyCycle v).sequenceKind = s.sequenceKind := rfl
@[simp] theorem State.setDutyCycle_directionPhase (v : Rat) : (s.setDutyCycle v).directionPhase = s.directionPhase := rfl
@[simp] theorem State.setDutyCycle_trigSel (v : Rat) : (s.setDutyCycle v).trigSel = s.trigSel := rfl
@[simp] theorem State.setDutyCycle_prevSample (v : Rat) : (s.setDutyCycle v).prevSample = s.prevSample := rfl
@[simp] theorem State.setDutyCycle_sampleOut (v : Rat) : (s.setDutyCycle v).sampleOut = s.sampleOut := rfl
@[simp] theorem State.setDutyCycle_port (v : Rat) : (s.setDutyCycle v).port = s.port := rfl
@[simp] theorem State.setDutyCycle_drawCount (v : Rat) : (s.setDutyCycle v).drawCount = s.drawCount := rfl
@[simp] theorem State.setDutyCycle_params (v : Rat) : (s.setDutyCycle v).params = s.params := rfl

/-! ### setShape -/

@[simp] theorem State.setShape_phase (v : Shape) : (s.setShape v).phase = s.phase := rfl
@[simp] theorem State.setShape_freeRunHz (v : Shape) : (s.setShape v).freeRunHz = s.freeRunHz := rfl
@[simp] theorem State.setShape_dutyCycle (v : Shape) : (s.setShape v).dutyCycle = s.dutyCycle := rfl
@[simp] theorem State.setShape_shape (v : Shape) : (s.setShape v).shape = v := rfl
@[simp] theorem State.setShape_range (v : Shape) : (s.setShape v).range = s.range := rfl
@[simp] theorem State.setShape_extClockEn (v : Shape) : (s.setShape v).extClockEn = s.extClockEn := rfl
@[simp] theorem State.setShape_lastPulseTimestamp (v : Shape) : (s.setShape v).lastPulseTimestamp = s.lastPulseTimestamp := rfl
@[simp] theorem State.setShape_measuredPeriodSeconds (v : Shape) : (s.setShape v).measuredPeriodSeconds = s.measuredPeriodSeconds := rfl
@[simp] theorem State.setShape_valid (v : Shape) : (s.setShape v).valid = s.valid := rfl
@[simp] theorem State.setShape_ratioIndex (v : Shape) : (s.setShape v).ratioIndex = s.ratioIndex := rfl
@[simp] theorem State.setShape_pulseAge (v : Shape) : (s.setShape v).pulseAge = s.pulseAge := rfl
@[simp] theorem State.setShape_currentStep (v : Shape) : (s.setShape v).currentStep = s.currentStep := rfl
@[simp] theorem State.setShape_skipMask (v : Shape) : (s.setShape v).skipMask = s.skipMask := rfl
@[simp] theorem State.setShape_sequenceKind (v : Shape) : (s.setShape v).sequenceKind = s.sequenceKind := rfl
@[simp] theorem State.setShape_directionPhase (v : Shape) : (s.setShape v).directionPhase = s.directionPhase := rfl
@[simp] theorem State.setShape_trigSel (v : Shape) : (s.setShape v).trigSel = s.trigSel := rfl
@[simp] theorem State.setShape_prevSample (v : Shape) : (s.setShape v).prevSample = s.prevSample := rfl
@[simp] theorem State.setShape_sampleOut (v : Shape) : (s.setShape v).sampleOut = s.sampleOut := rfl
@[simp] theorem State.setShape_port (v : Shape) : (s.setShape v).port = s.port := rfl
@[simp] theorem State.setShape_drawCount (v : Shape) : (s.setShape v).drawCount = s.drawCount := rfl
@[simp] theorem State.setShape_params (v : Shape) : (s.setShape v).params = s.params := rfl

/-! ### setRange -/

@[simp] theorem State.setRange_phase (v : FreqRange) : (s.setRange v).phase = s.phase := rfl
@[simp] theorem State.setRange_freeRunHz (v : FreqRange) : (s.setRange v).freeRunHz = s.freeRunHz := rfl
@[simp] theorem State.setRange_dutyCycle (v : FreqRange) : (s.setRange v).dutyCycle = s.dutyCycle := rfl
@[simp] theorem State.setRange_shape (v : FreqRange) : (s.setRange v).shape = s.shape := rfl
@[simp] theorem State.setRange_range (v : FreqRange) : (s.setRange v).range = v := rfl
@[simp] theorem State.setRange_extClockEn (v : FreqRange) : (s.setRange v).extClockEn = s.extClockEn := rfl
@[simp] theorem State.setRange_lastPulseTimestamp (v : FreqRange) : (s.setRange v).lastPulseTimestamp = s.lastPulseTimestamp := rfl
@[simp] theorem State.setRange_measuredPeriodSeconds (v : FreqRange) : (s.setRange v).measuredPeriodSeconds = s.measuredPeriodSeconds := rfl
@[simp] theorem State.setRange_valid (v : FreqRange) : (s.setRange v).valid = s.valid := rfl
@[simp] theorem State.setRange_ratioIndex (v : FreqRange) : (s.setRange v).ratioIndex = s.ratioIndex := rfl
@[simp] theorem State.setRange_pulseAge (v : FreqRange) : (s.setRange v).pulseAge = s.pulseAge := rfl
@[simp] theorem State.setRange_currentStep (v : FreqRange) : (s.setRange v).currentStep = s.currentStep := rfl
@[simp] theorem State.setRange_skipMask (v : FreqRange) : (s.setRange v).skipMask = s.skipMask := rfl
@[simp] theorem State.setRange_sequenceKind (v : FreqRange) : (s.setRange v).sequenceKind = s.sequenceKind := rfl
@[simp] theorem State.setRange_directionPhase (v : FreqRange) : (s.setRange v).directionPhase = s.directionPhase := rfl
@[simp] theorem State.setRange_trigSel (v : FreqRange) : (s.setRange v).trigSel = s.trigSel := rfl
@[simp] theorem State.setRange_prevSample (v : FreqRange) : (s.setRange v).prevSample = s.prevSample := rfl
@[simp] theorem State.setRange_sampleOut (v : FreqRange) : (s.setRange v).sampleOut = s.sampleOut := rfl
@[simp] theorem State.setRange_port (v : FreqRange) : (s.setRange v).port = s.port := rfl
@[simp] theorem State.setRange_drawCount (v : FreqRange) : (s.setRange v).drawCount = s.drawCount := rfl
@[simp] theorem State.setRange_params (v : FreqRange) : (s.setRange v).params = s.params := rfl

/-! ### setExtClockEn -/

@[simp] theorem State.setExtClockEn_phase (v : Bool) : (s.setExtClockEn v).phase = s.phase := rfl
@[simp] theorem State.setExtClockEn_freeRunHz (v : Bool) : (s.setExtClockEn v).freeRunHz = s.freeRunHz := rfl
@[simp] theorem State.setExtClockEn_dutyCycle (v : Bool) : (s.setExtClockEn v).dutyCycle = s.dutyCycle := rfl
@[simp] theorem State.setExtClockEn_shape (v : Bool) : (s.setExtClockEn v).shape = s.shape := rfl
@[simp] theorem State.setExtClockEn_range (v : Bool) : (s.setExtClockEn v).range = s.range := rfl
@[simp] theorem State.setExtClockEn_extClockEn (v : Bool) : (s.setExtClockEn v).extClockEn = v := rfl
@[simp] theorem State.setExtClockEn_lastPulseTimestamp (v : Bool) : (s.setExtClockEn v).lastPulseTimestamp = s.lastPulseTimestamp := rfl
@[simp] theorem State.setExtClockEn_measuredPeriodSeconds (v : Bool) : (s.setExtClockEn v).measuredPeriodSeconds = s.measuredPeriodSeconds := rfl
@[simp] theorem State.setExtClockEn_valid (v : Bool) : (s.setExtClockEn v).valid = s.valid := rfl
@[simp] theorem State.setExtClockEn_ratioIndex (v : Bool) : (s.setExtClockEn v).ratioIndex = s.ratioIndex := rfl
@[simp] theorem State.setExtClockEn_pulseAge (v : Bool) : (s.setExtClockEn v).pulseAge = s.pulseAge := rfl
@[simp] theorem State.setExtClockEn_currentStep (v : Bool) : (s.setExtClockEn v).currentStep = s.currentStep := rfl
@[simp] theorem State.setExtClockEn_skipMask (v : Bool) : (s.setExtClockEn v).skipMask = s.skipMask := rfl
@[simp] theorem State.setExtClockEn_sequenceKind (v : Bool) : (s.setExtClockEn v).sequenceKind = s.sequenceKind := rfl
@[simp] theorem State.setExtClockEn_directionPhase (v : Bool) : (s.setExtClockEn v).directionPhase = s.directionPhase := rfl
@[simp] theorem State.setExtClockEn_trigSel (v : Bool) : (s.setExtClockEn v).trigSel = s.trigSel := rfl
@[simp] theorem State.setExtClockEn_prevSample (v : Bool) : (s.setExtClockEn v).prevSample = s.prevSample := rfl
@[simp] theorem State.setExtClockEn_sampleOut (v : Bool) : (s.setExtClockEn v).sampleOut = s.sampleOut := rfl
@[simp] theorem State.setExtClockEn_port (v : Bool) : (s.setExtClockEn v).port = s.port := rfl
@[simp] theorem State.setExtClockEn_drawCount (v : Bool) : (s.setExtClockEn v).drawCount = s.drawCount := rfl
@[simp] theorem State.setExtClockEn_params (v : Bool) : (s.setExtClockEn v).params = s.params := rfl

/-! ### setLastPulse -/

@[simp] theorem State.setLastPulse_phase (v : Rat) : (s.setLastPulse v).phase = s.phase := rfl
@[simp] theorem State.setLastPulse_freeRunHz (v : Rat) : (s.setLastPulse v).freeRunHz = s.freeRunHz := rfl
@[simp] theorem State.setLastPulse_dutyCycle (v : Rat) : (s.setLastPulse v).dutyCycle = s.dutyCycle := rfl
@[simp] theorem State.setLastPulse_shape (v : Rat) : (s.setLastPulse v).shape = s.shape := rfl
@[simp] theorem State.setLastPulse_range (v : Rat) : (s.setLastPulse v).range = s.range := rfl
@[simp] theorem State.setLastPulse_extClockEn (v : Rat) : (s.setLastPulse v).extClockEn = s.extClockEn := rfl
@[simp] theorem State.setLastPulse_lastPulseTimestamp (v : Rat) : (s.setLastPulse v).lastPulseTimestamp = some v := rfl
@[simp] theorem State.setLastPulse_measuredPeriodSeconds (v : Rat) : (s.setLastPulse v).measuredPeriodSeconds = s.measuredPeriodSeconds := rfl
@[simp] theorem State.setLastPulse_valid (v : Rat) : (s.setLastPulse v).valid = s.valid := rfl
@[simp] theorem State.setLastPulse_ratioIndex (v : Rat) : (s.setLastPulse v).ratioIndex = s.ratioIndex := rfl
@[simp] theorem State.setLastPulse_pulseAge (v : Rat) : (s.setLastPulse v).pulseAge = s.pulseAge := rfl
@[simp] theorem State.setLastPulse_currentStep (v : Rat) : (s.setLastPulse v).currentStep = s.currentStep := rfl
@[simp] theorem State.setLastPulse_skipMask (v : Rat) : (s.setLastPulse v).skipMask = s.skipMask := rfl
@[simp] theorem State.setLastPulse_sequenceKind (v : Rat) : (s.setLastPulse v).sequenceKind = s.sequenceKind := rfl
@[simp] theorem State.setLastPulse_directionPhase (v : Rat) : (s.setLastPulse v).directionPhase = s.directionPhase := rfl
@[simp] theorem State.setLastPulse_trigSel (v : Rat) : (s.setLastPulse v).trigSel = s.trigSel := rfl
@[simp] theorem State.setLastPulse_prevSample (v : Rat) : (s.setLastPulse v).prevSample = s.prevSample := rfl
@[simp] theorem State.setLastPulse_sampleOut (v : Rat) : (s.setLastPulse v).sampleOut = s.sampleOut := rfl
@[simp] theorem State.setLastPulse_port (v : Rat) : (s.setLastPulse v).port = s.port := rfl
@[simp] theorem State.setLastPulse_drawCount (v : Rat) : (s.setLastPulse v).drawCount = s.drawCount := rfl
@[simp] theorem State.setLastPulse_params (v : Rat) : (s.setLastPulse v).params = s.params := rfl

/-! ### setPeriod -/

@[simp] theorem State.setPeriod_phase (v : Rat) : (s.setPeriod v).phase = s.phase := rfl
@[simp] theorem State.setPeriod_freeRunHz (v : Rat) : (s.setPeriod v).freeRunHz = s.freeRunHz := rfl
@[simp] theorem State.setPeriod_dutyCycle (v : Rat) : (s.setPeriod v).dutyCycle = s.dutyCycle := rfl
@[simp] theorem State.setPeriod_shape (v : Rat) : (s.setPeriod v).shape = s.shape := rfl
@[simp] theorem State.setPeriod_range (v : Rat) : (s.setPeriod v).range = s.range := rfl
@[simp] theorem State.setPeriod_extClockEn (v : Rat) : (s.setPeriod v).extClockEn = s.extClockEn := rfl
@[simp] theorem State.setPeriod_lastPulseTimestamp (v : Rat) : (s.setPeriod v).lastPulseTimestamp = s.lastPulseTimestamp := rfl
@[simp] theorem State.setPeriod_measuredPeriodSeconds (v : Rat) : (s.setPeriod v).measuredPeriodSeconds = some v := rfl
@[simp] theorem State.setPeriod_valid (v : Rat) : (s.setPeriod v).valid = s.valid := rfl
@[simp] theorem State.setPeriod_ratioIndex (v : Rat) : (s.setPeriod v).ratioIndex = s.ratioIndex := rfl
@[simp] theorem State.setPeriod_pulseAge (v : Rat) : (s.setPeriod v).pulseAge = s.pulseAge := rfl
@[simp] theorem State.setPeriod_currentStep (v : Rat) : (s.setPeriod v).currentStep = s.currentStep := rfl
@[simp] theorem State.setPeriod_skipMask (v : Rat) : (s.setPeriod v).skipMask = s.skipMask := rfl
@[simp] theorem State.setPeriod_sequenceKind (v : Rat) : (s.setPeriod v).sequenceKind = s.sequenceKind := rfl
@[simp] theorem State.setPeriod_directionPhase (v : Rat) : (s.setPeriod v).directionPhase = s.directionPhase := rfl
@[simp] theorem State.setPeriod_trigSel (v : Rat) : (s.setPeriod v).trigSel = s.trigSel := rfl
@[simp] theorem State.setPeriod_prevSample (v : Rat) : (s.setPeriod v).prevSample = s.prevSample := rfl
@[simp] theorem State.setPeriod_sampleOut (v : Rat) : (s.setPeriod v).sampleOut = s.sampleOut := rfl
@[simp] theorem State.setPeriod_port (v : Rat) : (s.setPeriod v).port = s.port := rfl
@[simp] theorem State.setPeriod_drawCount (v : Rat) : (s.setPeriod v).drawCount = s.drawCount := rfl
@[simp] theorem State.setPeriod_params (v : Rat) : (s.setPeriod v).params = s.params := rfl

/-! ### setValid -/

@[simp] theorem State.setValid_phase (v : Bool) : (s.setValid v).phase = s.phase := rfl
@[simp] theorem State.setValid_freeRunHz (v : Bool) : (s.setValid v).freeRunHz = s.freeRunHz := rfl
@[simp] theorem State.setValid_dutyCycle (v : Bool) : (s.setValid v).dutyCycle = s.dutyCycle := rfl
@[simp] theorem State.setValid_shape (v : Bool) : (s.setValid v).shape = s.shape := rfl
@[simp] theorem State.setValid_range (v : Bool) : (s.setValid v).range = s.range := rfl
@[simp] theorem State.setValid_extClockEn (v : Bool) : (s.setValid v).extClockEn = s.extClockEn := rfl
@[simp] theorem State.setValid_lastPulseTimestamp (v : Bool) : (s.setValid v).lastPulseTimestamp = s.lastPulseTimestamp := rfl
@[simp] theorem State.setValid_measuredPeriodSeconds (v : Bool) : (s.setValid v).measuredPeriodSeconds = s.measuredPeriodSeconds := rfl
@[simp] theorem State.setValid_valid (v : Bool) : (s.setValid v).valid = v := rfl
@[simp] theorem State.setValid_ratioIndex (v : Bool) : (s.setValid v).ratioIndex = s.ratioIndex := rfl
@[simp] theorem State.setValid_pulseAge (v : Bool) : (s.setValid v).pulseAge = s.pulseAge := rfl
@[simp] theorem State.setValid_currentStep (v : Bool) : (s.setValid v).currentStep = s.currentStep := rfl
@[simp] theorem State.setValid_skipMask (v : Bool) : (s.setValid v).skipMask = s.skipMask := rfl
@[simp] theorem State.setValid_sequenceKind (v : Bool) : (s.setValid v).sequenceKind = s.sequenceKind := rfl
@[simp] theorem State.setValid_directionPhase (v : Bool) : (s.setValid v).directionPhase = s.directionPhase := rfl
@[simp] theorem State.setValid_trigSel (v : Bool) : (s.setValid v).trigSel = s.trigSel := rfl
@[simp] theorem State.setValid_prevSample (v : Bool) : (s.setValid v).prevSample = s.prevSample := rfl
@[simp] theorem State.setValid_sampleOut (v : Bool) : (s.setValid v).sampleOut = s.sampleOut := rfl
@[simp] theorem State.setValid_port (v : Bool) : (s.setValid v).port = s.port := rfl
@[simp] theorem State.setValid_drawCount (v : Bool) : (s.setValid v).drawCount = s.drawCount := rfl
@[simp] theorem State.setValid_params (v : Bool) : (s.setValid v).params = s.params := rfl

/-! ### setRatioIndex -/

@[simp] theorem State.setRatioIndex_phase (v : Fin nRatios) : (s.setRatioIndex v).phase = s.phase := rfl
@[simp] theorem State.setRatioIndex_freeRunHz (v : Fin nRatios) : (s.setRatioIndex v).freeRunHz = s.freeRunHz := rfl
@[simp] theorem State.setRatioIndex_dutyCycle (v : Fin nRatios) : (s.setRatioIndex v).dutyCycle = s.dutyCycle := rfl
@[simp] theorem State.setRatioIndex_shape (v : Fin nRatios) : (s.setRatioIndex v).shape = s.shape := rfl
@[simp] theorem State.setRatioIndex_range (v : Fin nRatios) : (s.setRatioIndex v).range = s.range := rfl
@[simp] theorem State.setRatioIndex_extClockEn (v : Fin nRatios) : (s.setRatioIndex v).extClockEn = s.extClockEn := rfl
@[simp] theorem State.setRatioIndex_lastPulseTimestamp (v : Fin nRatios) : (s.setRatioIndex v).lastPulseTimestamp = s.lastPulseTimestamp := rfl
@[simp] theorem State.setRatioIndex_measuredPeriodSeconds (v : Fin nRatios) : (s.setRatioIndex v).measuredPeriodSeconds = s.measuredPeriodSeconds := rfl
@[simp] theorem State.setRatioIndex_valid (v : Fin nRatios) : (s.setRatioIndex v).valid = s.valid := rfl
@[simp] theorem State.setRatioIndex_ratioIndex (v : Fin nRatios) : (s.setRatioIndex v).ratioIndex = v := rfl
@[simp] theorem State.setRatioIndex_pulseAge (v : Fin nRatios) : (s.setRatioIndex v).pulseAge = s.pulseAge := rfl
@[simp] theorem State.setRatioIndex_currentStep (v : Fin nRatios) : (s.setRatioIndex v).currentStep = s.currentStep := rfl
@[simp] theorem State.setRatioIndex_skipMask (v : Fin nRatios) : (s.setRatioIndex v).skipMask = s.skipMask := rfl
@[simp] theorem State.setRatioIndex_sequenceKind (v : Fin nRatios) : (s.setRatioIndex v).sequenceKind = s.sequenceKind := rfl
@[simp] theorem State.setRatioIndex_directionPhase (v : Fin nRatios) : (s.setRatioIndex v).directionPhase = s.directionPhase := rfl
@[simp] theorem State.setRatioIndex_trigSel (v : Fin nRatios) : (s.setRatioIndex v).trigSel = s.trigSel := rfl
@[simp] theorem State.setRatioIndex_prevSample (v : Fin nRatios) : (s.setRatioIndex v).prevSample = s.prevSample := rfl
@[simp] theorem State.setRatioIndex_sampleOut (v : Fin nRatios) : (s.setRatioIndex v).sampleOut = s.sampleOut := rfl
@[simp] theorem State.setRatioIndex_port (v : Fin nRatios) : (s.setRatioIndex v).port = s.port := rfl
@[simp] theorem State.setRatioIndex_drawCount (v : Fin nRatios) : (s.setRatioIndex v).drawCount = s.drawCount := rfl
@[simp] theorem State.setRatioIndex_params (v : Fin nRatios) : (s.setRatioIndex v).params = s.params := rfl

/-! ### setPulseAge -/

@[simp] theorem State.setPulseAge_phase (v : Rat) : (s.setPulseAge v).phase = s.phase := rfl
@[simp] theorem State.setPulseAge_freeRunHz (v : Rat) : (s.setPulseAge v).freeRunHz = s.freeRunHz := rfl
@[simp] theorem State.setPulseAge_dutyCycle (v : Rat) : (s.setPulseAge v).dutyCycle = s.dutyCycle := rfl
@[simp] theorem State.setPulseAge_shape (v : Rat) : (s.setPulseAge v).shape = s.shape := rfl
@[simp] theorem State.setPulseAge_range (v : Rat) : (s.setPulseAge v).range = s.range := rfl
@[simp] theorem State.setPulseAge_extClockEn (v : Rat) : (s.setPulseAge v).extClockEn = s.extClockEn := rfl
@[simp] theorem State.setPulseAge_lastPulseTimestamp (v : Rat) : (s.setPulseAge v).lastPulseTimestamp = s.lastPulseTimestamp := rfl
@[simp] theorem State.setPulseAge_measuredPeriodSeconds (v : Rat) : (s.setPulseAge v).measuredPeriodSeconds = s.measuredPeriodSeconds := rfl
@[simp] theorem State.setPulseAge_valid (v : Rat) : (s.setPulseAge v).valid = s.valid := rfl
@[simp] theorem State.setPulseAge_ratioIndex (v : Rat) : (s.setPulseAge v).ratioIndex = s.ratioIndex := rfl
@[simp] theorem State.setPulseAge_pulseAge (v : Rat) : (s.setPulseAge v).pulseAge = v := rfl
@[simp] theorem State.setPulseAge_currentStep (v : Rat) : (s.setPulseAge v).currentStep = s.currentStep := rfl
@[simp] theorem State.setPulseAge_skipMask (v : Rat) : (s.setPulseAge v).skipMask = s.skipMask := rfl
@[simp] theorem State.setPulseAge_sequenceKind (v : Rat) : (s.setPulseAge v).sequenceKind = s.sequenceKind := rfl
@[simp] theorem State.setPulseAge_directionPhase (v : Rat) : (s.setPulseAge v).directionPhase = s.directionPhase := rfl
@[simp] theorem State.setPulseAge_trigSel (v : Rat) : (s.setPulseAge v).trigSel = s.trigSel := rfl
@[simp] theorem State.setPulseAge_prevSample (v : Rat) : (s.setPulseAge v).prevSample = s.prevSample := rfl
@[simp] theorem State.setPulseAge_sampleOut (v : Rat) : (s.setPulseAge v).sampleOut = s.sampleOut := rfl
@[simp] theorem State.setPulseAge_port (v : Rat) : (s.setPulseAge v).port = s.port := rfl
@[simp] theorem State.setPulseAge_drawCount (v : Rat) : (s.setPulseAge v).drawCount = s.drawCount := rfl
@[simp] theorem State.setPulseAge_params (v : Rat) : (s.setPulseAge v).params = s.params := rfl

/-! ### commitStep -/

@[simp] theorem State.commitStep_phase (v : Fin nSteps) (ph : Bool) : (s.commitStep v ph).phase = s.phase := rfl
@[simp] theorem State.commitStep_freeRunHz (v : Fin nSteps) (ph : Bool) : (s.commitStep v ph).freeRunHz = s.freeRunHz := rfl
@[simp] theorem State.commitStep_dutyCycle (v : Fin nSteps) (ph : Bool) : (s.commitStep v ph).dutyCycle = s.dutyCycle := rfl
@[simp] theorem State.commitStep_shape (v : Fin nSteps) (ph : Bool) : (s.commitStep v ph).shape = s.shape := rfl
@[simp] theorem State.commitStep_range (v : Fin nSteps) (ph : Bool) : (s.commitStep v ph).range = s.range := rfl
@[simp] theorem State.commitStep_extClockEn (v : Fin nSteps) (ph : Bool) : (s.commitStep v ph).extClockEn = s.extClockEn := rfl
@[simp] theorem State.commitStep_lastPulseTimestamp (v : Fin nSteps) (ph : Bool) : (s.commitStep v ph).lastPulseTimestamp = s.lastPulseTimestamp := rfl
@[simp] theorem State.commitStep_measuredPeriodSeconds (v : Fin nSteps) (ph : Bool) : (s.commitStep v ph).measuredPeriodSeconds = s.measuredPeriodSeconds := rfl
@[simp] theorem State.commitStep_valid (v : Fin nSteps) (ph : Bool) : (s.commitStep v ph).valid = s.valid := rfl
@[simp] theorem State.commitStep_ratioIndex (v : Fin nSteps) (ph : Bool) : (s.commitStep v ph).ratioIndex = s.ratioIndex := rfl
@[simp] theorem State.commitStep_pulseAge (v : Fin nSteps) (ph : Bool) : (s.commitStep v ph).pulseAge = s.pulseAge := rfl
@[simp] theorem State.commitStep_currentStep (v : Fin nSteps) (ph : Bool) : (s.commitStep v ph).currentStep = v := rfl
@[simp] theorem State.commitStep_skipMask (v : Fin nSteps) (ph : Bool) : (s.commitStep v ph).skipMask = s.skipMask := rfl
@[simp] theorem State.commitStep_sequenceKind (v : Fin nSteps) (ph : Bool) : (s.commitStep v ph).sequenceKind = s.sequenceKind := rfl
@[simp] theorem State.commitStep_directionPhase (v : Fin nSteps) (ph : Bool) : (s.commitStep v ph).directionPhase = ph := rfl
@[simp] theorem State.commitStep_trigSel (v : Fin nSteps) (ph : Bool) : (s.commitStep v ph).trigSel = s.trigSel := rfl
@[simp] theorem State.commitStep_prevSample (v : Fin nSteps) (ph : Bool) : (s.commitStep v ph).prevSample = s.prevSample := rfl
@[simp] theorem State.commitStep_sampleOut (v : Fin nSteps) (ph : Bool) : (s.commitStep v ph).sampleOut = s.sampleOut := rfl
@[simp] theorem State.commitStep_port (v : Fin nSteps) (ph : Bool) : (s.commitStep v ph).port = s.port := rfl
@[simp] theorem State.commitStep_drawCount (v : Fin nSteps) (ph : Bool) : (s.commitStep v ph).drawCount = s.drawCount := rfl
@[simp] theorem State.commitStep_params (v : Fin nSteps) (ph : Bool) : (s.commitStep v ph).params = s.params := rfl

/-! ### setSkipMask -/

@[simp] theorem State.setSkipMask_phase (v : Vector Bool nSteps) : (s.setSkipMask v).phase = s.phase := rfl
@[simp] theorem State.setSkipMask_freeRunHz (v : Vector Bool nSteps) : (s.setSkipMask v).freeRunHz = s.freeRunHz := rfl
@[simp] theorem State.setSkipMask_dutyCycle (v : Vector Bool nSteps) : (s.setSkipMask v).dutyCycle = s.dutyCycle := rfl
@[simp] theorem State.setSkipMask_shape (v : Vector Bool nSteps) : (s.setSkipMask v).shape = s.shape := rfl
@[simp] theorem State.setSkipMask_range (v : Vector Bool nSteps) : (s.setSkipMask v).range = s.range := rfl
@[simp] theorem State.setSkipMask_extClockEn (v : Vector Bool nSteps) : (s.setSkipMask v).extClockEn = s.extClockEn := rfl
@[simp] theorem State.setSkipMask_lastPulseTimestamp (v : Vector Bool nSteps) : (s.setSkipMask v).lastPulseTimestamp = s.lastPulseTimestamp := rfl
@[simp] theorem State.setSkipMask_measuredPeriodSeconds (v : Vector Bool nSteps) : (s.setSkipMask v).measuredPeriodSeconds = s.measuredPeriodSeconds := rfl
@[simp] theorem State.setSkipMask_valid (v : Vector Bool nSteps) : (s.setSkipMask v).valid = s.valid := rfl
@[simp] theorem State.setSkipMask_ratioIndex (v : Vector Bool nSteps) : (s.setSkipMask v).ratioIndex = s.ratioIndex := rfl
@[simp] theorem State.setSkipMask_pulseAge (v : Vector Bool nSteps) : (s.setSkipMask v).pulseAge = s.pulseAge := rfl
@[simp] theorem State.setSkipMask_currentStep (v : Vector Bool nSteps) : (s.setSkipMask v).currentStep = s.currentStep := rfl
@[simp] theorem State.setSkipMask_skipMask (v : Vector Bool nSteps) : (s.setSkipMask v).skipMask = v := rfl
@[simp] theorem State.setSkipMask_sequenceKind (v : Vector Bool nSteps) : (s.setSkipMask v).sequenceKind = s.sequenceKind := rfl
@[simp] theorem State.setSkipMask_directionPhase (v : Vector Bool nSteps) : (s.setSkipMask v).directionPhase = s.directionPhase := rfl
@[simp] theorem State.setSkipMask_trigSel (v : Vector Bool nSteps) : (s.setSkipMask v).trigSel = s.trigSel := rfl
@[simp] theorem State.setSkipMask_prevSample (v : Vector Bool nSteps) : (s.setSkipMask v).prevSample = s.prevSample := rfl
@[simp] theorem State.setSkipMask_sampleOut (v : Vector Bool nSteps) : (s.setSkipMask v).sampleOut = s.sampleOut := rfl
@[simp] theorem State.setSkipMask_port (v : Vector Bool nSteps) : (s.setSkipMask v).port = s.port := rfl
@[simp] theorem State.setSkipMask_drawCount (v : Vector Bool nSteps) : (s.setSkipMask v).drawCount = s.drawCount := rfl
@[simp] theorem State.setSkipMask_params (v : Vector Bool nSteps) : (s.setSkipMask v).params = s.params := rfl

/-! ### changeKind -/

@[simp] theorem State.changeKind_phase (v : SeqKind) : (s.changeKind v).phase = s.phase := rfl
@[simp] theorem State.changeKind_freeRunHz (v : SeqKind) : (s.changeKind v).freeRunHz = s.freeRunHz := rfl
@[simp] theorem State.changeKind_dutyCycle (v : SeqKind) : (s.changeKind v).dutyCycle = s.dutyCycle := rfl
@[simp] theorem State.changeKind_shape (v : SeqKind) : (s.changeKind v).shape = s.shape := rfl
@[simp] theorem State.changeKind_range (v : SeqKind) : (s.changeKind v).range = s.range := rfl
@[simp] theorem State.changeKind_extClockEn (v : SeqKind) : (s.changeKind v).extClockEn = s.extClockEn := rfl
@[simp] theorem State.changeKind_lastPulseTimestamp (v : SeqKind) : (s.changeKind v).lastPulseTimestamp = s.lastPulseTimestamp := rfl
@[simp] theorem State.changeKind_measuredPeriodSeconds (v : SeqKind) : (s.changeKind v).measuredPeriodSeconds = s.measuredPeriodSeconds := rfl
@[simp] theorem State.changeKind_valid (v : SeqKind) : (s.changeKind v).valid = s.valid := rfl
@[simp] theorem State.changeKind_ratioIndex (v : SeqKind) : (s.changeKind v).ratioIndex = s.ratioIndex := rfl
@[simp] theorem State.changeKind_pulseAge (v : SeqKind) : (s.changeKind v).pulseAge = s.pulseAge := rfl
@[simp] theorem State.changeKind_currentStep (v : SeqKind) : (s.changeKind v).currentStep = s.currentStep := rfl
@[simp] theorem State.changeKind_skipMask (v : SeqKind) : (s.changeKind v).skipMask = s.skipMask := rfl
@[simp] theorem State.changeKind_sequenceKind (v : SeqKind) : (s.changeKind v).sequenceKind = v := rfl
@[simp] theorem State.changeKind_directionPhase (v : SeqKind) : (s.changeKind v).directionPhase = true := rfl
@[simp] theorem State.changeKind_trigSel (v : SeqKind) : (s.changeKind v).trigSel = s.trigSel := rfl
@[simp] theorem State.changeKind_prevSample (v : SeqKind) : (s.changeKind v).prevSample = s.prevSample := rfl
@[simp] theorem State.changeKind_sampleOut (v : SeqKind) : (s.changeKind v).sampleOut = s.sampleOut := rfl
@[simp] theorem State.changeKind_port (v : SeqKind) : (s.changeKind v).port = s.port := rfl
@[simp] theorem State.changeKind_drawCount (v : SeqKind) : (s.changeKind v).drawCount = s.drawCount := rfl
@[simp] theorem State.changeKind_params (v : SeqKind) : (s.changeKind v).params = s.params := rfl

/-! ### setTrigSel -/

@[simp] theorem State.setTrigSel_phase (v : TrigSel) : (s.setTrigSel v).phase = s.phase := rfl
@[simp] theorem State.setTrigSel_freeRunHz (v : TrigSel) : (s.setTrigSel v).freeRunHz = s.freeRunHz := rfl
@[simp] theorem State.setTrigSel_dutyCycle (v : TrigSel) : (s.setTrigSel v).dutyCycle = s.dutyCycle := rfl
@[simp] theorem State.setTrigSel_shape (v : TrigSel) : (s.setTrigSel v).shape = s.shape := rfl
@[simp] theorem State.setTrigSel_range (v : TrigSel) : (s.setTrigSel v).range = s.range := rfl
@[simp] theorem State.setTrigSel_extClockEn (v : TrigSel) : (s.setTrigSel v).extClockEn = s.extClockEn := rfl
@[simp] theorem State.setTrigSel_lastPulseTimestamp (v : TrigSel) : (s.setTrigSel v).lastPulseTimestamp = s.lastPulseTimestamp := rfl
@[simp] theorem State.setTrigSel_measuredPeriodSeconds (v : TrigSel) : (s.setTrigSel v).measuredPeriodSeconds = s.measuredPeriodSeconds := rfl
@[simp] theorem State.setTrigSel_valid (v : TrigSel) : (s.setTrigSel v).valid = s.valid := rfl
@[simp] theorem State.setTrigSel_ratioIndex (v : TrigSel) : (s.setTrigSel v).ratioIndex = s.ratioIndex := rfl
@[simp] theorem State.setTrigSel_pulseAge (v : TrigSel) : (s.setTrigSel v).pulseAge = s.pulseAge := rfl
@[simp] theorem State.setTrigSel_currentStep (v : TrigSel) : (s.setTrigSel v).currentStep = s.currentStep := rfl
@[simp] theorem State.setTrigSel_skipMask (v : TrigSel) : (s.setTrigSel v).skipMask = s.skipMask := rfl
@[simp] theorem State.setTrigSel_sequenceKind (v : TrigSel) : (s.setTrigSel v).sequenceKind = s.sequenceKind := rfl
@[simp] theorem State.setTrigSel_directionPhase (v : TrigSel) : (s.setTrigSel v).directionPhase = s.directionPhase := rfl
@[simp] theorem State.setTrigSel_trigSel (v : TrigSel) : (s.setTrigSel v).trigSel = v := rfl
@[simp] theorem State.setTrigSel_prevSample (v : TrigSel) : (s.setTrigSel v).prevSample = s.prevSample := rfl
@[simp] theorem State.setTrigSel_sampleOut (v : TrigSel) : (s.setTrigSel v).sampleOut = s.sampleOut := rfl
@[simp] theorem State.setTrigSel_port (v : TrigSel) : (s.setTrigSel v).port = s.port := rfl
@[simp] theorem State.setTrigSel_drawCount (v : TrigSel) : (s.setTrigSel v).drawCount = s.drawCount := rfl
@[simp] theorem State.setTrigSel_params (v : TrigSel) : (s.setTrigSel v).params = s.params := rfl

/-! ### emit -/

@[simp] theorem State.emit_phase (v : Rat) : (s.emit v).phase = s.phase := rfl
@[simp] theorem State.emit_freeRunHz (v : Rat) : (s.emit v).freeRunHz = s.freeRunHz := rfl
@[simp] theorem State.emit_dutyCycle (v : Rat) : (s.emit v).dutyCycle = s.dutyCycle := rfl
@[simp] theorem State.emit_shape (v : Rat) : (s.emit v).shape = s.shape := rfl
@[simp] theorem State.emit_range (v : Rat) : (s.emit v).range = s.range := rfl
@[simp] theorem State.emit_extClockEn (v : Rat) : (s.emit v).extClockEn = s.extClockEn := rfl
@[simp] theorem State.emit_lastPulseTimestamp (v : Rat) : (s.emit v).lastPulseTimestamp = s.lastPulseTimestamp := rfl
@[simp] theorem State.emit_measuredPeriodSeconds (v : Rat) : (s.emit v).measuredPeriodSeconds = s.measuredPeriodSeconds := rfl
@[simp] theorem State.emit_valid (v : Rat) : (s.emit v).valid = s.valid := rfl
@[simp] theorem State.emit_ratioIndex (v : Rat) : (s.emit v).ratioIndex = s.ratioIndex := rfl
@[simp] theorem State.emit_pulseAge (v : Rat) : (s.emit v).pulseAge = s.pulseAge := rfl
@[simp] theorem State.emit_currentStep (v : Rat) : (s.emit v).currentStep = s.currentStep := rfl
@[simp] theorem State.emit_skipMask (v : Rat) : (s.emit v).skipMask = s.skipMask := rfl
@[simp] theorem State.emit_sequenceKind (v : Rat) : (s.emit v).sequenceKind = s.sequenceKind := rfl
@[simp] theorem State.emit_directionPhase (v : Rat) : (s.emit v).directionPhase = s.directionPhase := rfl
@[simp] theorem State.emit_trigSel (v : Rat) : (s.emit v).trigSel = s.trigSel := rfl
@[simp] theorem State.emit_prevSample (v : Rat) : (s.emit v).prevSample = some v := rfl
@[simp] theorem State.emit_sampleOut (v : Rat) : (s.emit v).sampleOut = s.sampleOut ++ [v] := rfl
@[simp] theorem State.emit_port (v : Rat) : (s.emit v).port = s.port := rfl
@[simp] theorem State.emit_drawCount (v : Rat) : (s.emit v).drawCount = s.drawCount := rfl
@[simp] theorem State.emit_params (v : Rat) : (s.emit v).params = s.params := rfl

/-! ### setDrawCount -/

@[simp] theorem State.setDrawCount_phase (v : Nat) : (s.setDrawCount v).phase = s.phase := rfl
@[simp] theorem State.setDrawCount_freeRunHz (v : Nat) : (s.setDrawCount v).freeRunHz = s.freeRunHz := rfl
@[simp] theorem State.setDrawCount_dutyCycle (v : Nat) : (s.setDrawCount v).dutyCycle = s.dutyCycle := rfl
@[simp] theorem State.setDrawCount_shape (v : Nat) : (s.setDrawCount v).shape = s.shape := rfl
@[simp] theorem State.setDrawCount_range (v : Nat) : (s.setDrawCount v).range = s.range := rfl
@[simp] theorem State.setDrawCount_extClockEn (v : Nat) : (s.setDrawCount v).extClockEn = s.extClockEn := rfl
@[simp] theorem State.setDrawCount_lastPulseTimestamp (v : Nat) : (s.setDrawCount v).lastPulseTimestamp = s.lastPulseTimestamp := rfl
@[simp] theorem State.setDrawCount_measuredPeriodSeconds (v : Nat) : (s.setDrawCount v).measuredPeriodSeconds = s.measuredPeriodSeconds := rfl
@[simp] theorem State.setDrawCount_valid (v : Nat) : (s.setDrawCount v).valid = s.valid := rfl
@[simp] theorem State.setDrawCount_ratioIndex (v : Nat) : (s.setDrawCount v).ratioIndex = s.ratioIndex := rfl
@[simp] theorem State.setDrawCount_pulseAge (v : Nat) : (s.setDrawCount v).pulseAge = s.pulseAge := rfl
@[simp] theorem State.setDrawCount_currentStep (v : Nat) : (s.setDrawCount v).currentStep = s.currentStep := rfl
@[simp] theorem State.setDrawCount_skipMask (v : Nat) : (s.setDrawCount v).skipMask = s.skipMask := rfl
@[simp] theorem State.setDrawCount_sequenceKind (v : Nat) : (s.setDrawCount v).sequenceKind = s.sequenceKind := rfl
@[simp] theorem State.setDrawCount_directionPhase (v : Nat) : (s.setDrawCount v).directionPhase = s.directionPhase := rfl
@[simp] theorem State.setDrawCount_trigSel (v : Nat) : (s.setDrawCount v).trigSel = s.trigSel := rfl
@[simp] theorem State.setDrawCount_prevSample (v : Nat) : (s.setDrawCount v).prevSample = s.prevSample := rfl
@[simp] theorem State.setDrawCount_sampleOut (v : Nat) : (s.setDrawCount v).sampleOut = s.sampleOut := rfl
@[simp] theorem State.setDrawCount_port (v : Nat) : (s.setDrawCount v).port = s.port := rfl
@[simp] theorem State.setDrawCount_drawCount (v : Nat) : (s.setDrawCount v).drawCount = v := rfl
@[simp] theorem State.setDrawCount_params (v : Nat) : (s.setDrawCount v).params = s.params := rfl

/-! ### setPort -/

@[simp] theorem State.setPort_phase (v : List Word) : (s.setPort v).phase = s.phase := rfl
@[simp] theorem State.setPort_freeRunHz (v : List Word) : (s.setPort v).freeRunHz = s.freeRunHz := rfl
@[simp] theorem State.setPort_dutyCycle (v : List Word) : (s.setPort v).dutyCycle = s.dutyCycle := rfl
@[simp] theorem State.setPort_shape (v : List Word) : (s.setPort v).shape = s.shape := rfl
@[simp] theorem State.setPort_range (v : List Word) : (s.setPort v).range = s.range := rfl
@[simp] theorem State.setPort_extClockEn (v : List Word) : (s.setPort v).extClockEn = s.extClockEn := rfl
@[simp] theorem State.setPort_lastPulseTimestamp (v : List Word) : (s.setPort v).lastPulseTimestamp = s.lastPulseTimestamp := rfl
@[simp] theorem State.setPort_measuredPeriodSeconds (v : List Word) : (s.setPort v).measuredPeriodSeconds = s.measuredPeriodSeconds := rfl
@[simp] theorem State.setPort_valid (v : List Word) : (s.setPort v).valid = s.valid := rfl
@[simp] theorem State.setPort_ratioIndex (v : List Word) : (s.setPort v).ratioIndex = s.ratioIndex := rfl
@[simp] theorem State.setPort_pulseAge (v : List Word) : (s.setPort v).pulseAge = s.pulseAge := rfl
@[simp] theorem State.setPort_currentStep (v : List Word) : (s.setPort v).currentStep = s.currentStep := rfl
@[simp] theorem State.setPort_skipMask (v : List Word) : (s.setPort v).skipMask = s.skipMask := rfl
@[simp] theorem State.setPort_sequenceKind (v : List Word) : (s.setPort v).sequenceKind = s.sequenceKind := rfl
@[simp] theorem State.setPort_directionPhase (v : List Word) : (s.setPort v).directionPhase = s.directionPhase := rfl
@[simp] theorem State.setPort_trigSel (v : List Word) : (s.setPort v).trigSel = s.trigSel := rfl
@[simp] theorem State.setPort_prevSample (v : List Word) : (s.setPort v).prevSample = s.prevSample := rfl
@[simp] theorem State.setPort_sampleOut (v : List Word) : (s.setPort v).sampleOut = s.sampleOut := rfl
@[simp] theorem State.setPort_port (v : List Word) : (s.setPort v).port = v := rfl
@[simp] theorem State.setPort_drawCount (v : List Word) : (s.setPort v).drawCount = s.drawCount := rfl
@[simp] theorem State.setPort_params (v : List Word) : (s.setPort v).params = s.params := rfl

end Sys2Proof.Machine
end

