-- ==== Sys2Proof/Laws/Sequencer.lean ====
section
/-! SUPPORT. What an advance can do (spec 42_sequencer R126), said once, and its frame. -/

namespace Sys2Proof.Machine

/-- A probe loop that commits does so at an active candidate; the draws consumed only grow. -/
theorem probe_cases (draw : Nat → Fin nSteps) (mask : Vector Bool nSteps) (kind : SeqKind) (k n : Nat) (c : Fin nSteps) (ph : Bool) :
    n ≤ (probe draw mask kind k n c ph).2 ∧
    ∀ r, (probe draw mask kind k n c ph).1 = some r → mask[r.1] = false := by
  induction k generalizing n c ph with
  | zero => simp [probe]
  | succ k ih =>
    have ih' := ih (n + drawsPerProbe kind) (applyRule mask (draw n) kind c ph).1 (applyRule mask (draw n) kind c ph).2
    by_cases h : mask[(applyRule mask (draw n) kind c ph).1] = true
    · simp only [probe, h, if_true]
      exact ⟨by omega, ih'.2⟩
    · simp only [probe, h]
      exact ⟨by simp, by rintro r ⟨⟩; simpa using h⟩

/-- An advance either gives up, and then writes no register, or commits a step that is active (R126). -/
theorem advance_cases (draw : Nat → Fin nSteps) (s : State) :
    (∃ n, s.drawCount ≤ n ∧ advance draw s = s.setDrawCount n) ∨
    (∃ c ph n, s.drawCount ≤ n ∧ s.skipMask[c] = false ∧ advance draw s = (s.commitStep c ph).setDrawCount n) := by
  have h := probe_cases draw s.skipMask s.sequenceKind maxProbes s.drawCount s.currentStep s.directionPhase
  unfold advance
  split
  · rename_i c ph n e
    rw [e] at h
    exact .inr ⟨c, ph, n, h.1, h.2 _ rfl, rfl⟩
  · rename_i n e
    rw [e] at h
    exact .inl ⟨n, h.1, rfl⟩

/-- The registers an advance leaves alone: all but the step, the direction and the count of draws. -/
theorem advance_frame (draw : Nat → Fin nSteps) (s : State) :
    advance draw s = { s with
      currentStep := (advance draw s).currentStep
      directionPhase := (advance draw s).directionPhase
      drawCount := (advance draw s).drawCount } := by
  rcases advance_cases draw s with ⟨n, -, h⟩ | ⟨c, ph, n, -, -, h⟩ <;> rw [h] <;> rfl

@[simp] theorem advance_phase (d : Nat → Fin nSteps) (s : State) : (advance d s).phase = s.phase := by rw [advance_frame]
@[simp] theorem advance_freeRunHz (d : Nat → Fin nSteps) (s : State) : (advance d s).freeRunHz = s.freeRunHz := by rw [advance_frame]
@[simp] theorem advance_dutyCycle (d : Nat → Fin nSteps) (s : State) : (advance d s).dutyCycle = s.dutyCycle := by rw [advance_frame]
@[simp] theorem advance_shape (d : Nat → Fin nSteps) (s : State) : (advance d s).shape = s.shape := by rw [advance_frame]
@[simp] theorem advance_range (d : Nat → Fin nSteps) (s : State) : (advance d s).range = s.range := by rw [advance_frame]
@[simp] theorem advance_extClockEn (d : Nat → Fin nSteps) (s : State) : (advance d s).extClockEn = s.extClockEn := by rw [advance_frame]
@[simp] theorem advance_lastPulseTimestamp (d : Nat → Fin nSteps) (s : State) :
    (advance d s).lastPulseTimestamp = s.lastPulseTimestamp := by rw [advance_frame]
@[simp] theorem advance_measuredPeriodSeconds (d : Nat → Fin nSteps) (s : State) :
    (advance d s).measuredPeriodSeconds = s.measuredPeriodSeconds := by rw [advance_frame]
@[simp] theorem advance_valid (d : Nat → Fin nSteps) (s : State) : (advance d s).valid = s.valid := by rw [advance_frame]
@[simp] theorem advance_ratioIndex (d : Nat → Fin nSteps) (s : State) : (advance d s).ratioIndex = s.ratioIndex := by rw [advance_frame]
@[simp] theorem advance_pulseAge (d : Nat → Fin nSteps) (s : State) : (advance d s).pulseAge = s.pulseAge := by rw [advance_frame]
@[simp] theorem advance_skipMask (d : Nat → Fin nSteps) (s : State) : (advance d s).skipMask = s.skipMask := by rw [advance_frame]
@[simp] theorem advance_sequenceKind (d : Nat → Fin nSteps) (s : State) : (advance d s).sequenceKind = s.sequenceKind := by rw [advance_frame]
@[simp] theorem advance_trigSel (d : Nat → Fin nSteps) (s : State) : (advance d s).trigSel = s.trigSel := by rw [advance_frame]
@[simp] theorem advance_prevSample (d : Nat → Fin nSteps) (s : State) : (advance d s).prevSample = s.prevSample := by rw [advance_frame]
@[simp] theorem advance_sampleOut (d : Nat → Fin nSteps) (s : State) : (advance d s).sampleOut = s.sampleOut := by rw [advance_frame]
@[simp] theorem advance_port (d : Nat → Fin nSteps) (s : State) : (advance d s).port = s.port := by rw [advance_frame]
@[simp] theorem advance_params (d : Nat → Fin nSteps) (s : State) : (advance d s).params = s.params := by rw [advance_frame]

end Sys2Proof.Machine
end

