-- ==== Sys2Proof/Laws/Sampling.lean ====
section
/-! SUPPORT. What the clock-loss timer and one SAMPLE can do (spec 40_oscillator R82, 41_clock_sync R107), said once, and
the induction over a buffer (R83). -/

namespace Sys2Proof.Machine

/-- The timer leaves an invalid clock alone; a valid one ages, and stays valid or expires (R107). -/
theorem clockLossTimer_cases (sr : Rat) (s : State) :
    (s.valid = false ∧ clockLossTimer sr s = s) ∨
    (s.valid = true ∧ s.pulseAge + 1 / sr ≤ tLoss ∧ clockLossTimer sr s = s.setPulseAge (s.pulseAge + 1 / sr)) ∨
    (s.valid = true ∧ tLoss < s.pulseAge + 1 / sr ∧
      clockLossTimer sr s = (s.setPulseAge (s.pulseAge + 1 / sr)).setValid false) := by
  unfold clockLossTimer
  by_cases hv : s.valid = true
  · by_cases ht : tLoss < s.pulseAge + 1 / sr
    · exact .inr (.inr ⟨hv, ht, by simp only [hv, if_true, State.setPulseAge_pulseAge, ht]⟩)
    · exact .inr (.inl ⟨hv, not_lt.mp ht, by simp only [hv, if_true, State.setPulseAge_pulseAge, ht, if_false]⟩)
  · exact .inl ⟨by simpa using hv, by simp [hv]⟩

/-- The registers the timer leaves alone: all but `pulseAge` and `valid`. -/
theorem clockLossTimer_frame (sr : Rat) (s : State) :
    clockLossTimer sr s = { s with
      pulseAge := (clockLossTimer sr s).pulseAge
      valid := (clockLossTimer sr s).valid } := by
  rcases clockLossTimer_cases sr s with ⟨-, h⟩ | ⟨-, -, h⟩ | ⟨-, -, h⟩ <;> rw [h] <;> rfl

/-- The state one SAMPLE reaches before the edge is acted on (R82). -/
def sampleEmitted (sr : Rat) (s : State) : State :=
  let timed := clockLossTimer sr s
  let phase := frac (timed.phase + selectFreq timed / sr)
  (timed.setPhase phase).emit (wave timed.params.eps timed.shape phase timed.dutyCycle)

/-- One SAMPLE emits and then either stops there or advances once (R82, R128). -/
theorem sample_cases (draw : Nat → Fin nSteps) (sr : Rat) (s : State) :
    sample draw sr s = sampleEmitted sr s ∨
    (s.trigSel = .internal ∧ sample draw sr s = advance draw (sampleEmitted sr s)) := by
  unfold sample
  dsimp only
  split
  · rename_i h
    refine .inr ⟨?_, rfl⟩
    have h2 := h.2
    rw [clockLossTimer_frame] at h2
    exact h2
  · exact .inl rfl

/-- The registers one SAMPLE leaves alone before the edge is acted on. -/
theorem sampleEmitted_frame (sr : Rat) (s : State) :
    sampleEmitted sr s = { s with
      pulseAge := (sampleEmitted sr s).pulseAge
      valid := (sampleEmitted sr s).valid
      phase := (sampleEmitted sr s).phase
      sampleOut := (sampleEmitted sr s).sampleOut
      prevSample := (sampleEmitted sr s).prevSample } := by
  unfold sampleEmitted
  dsimp only
  rw [clockLossTimer_frame]
  rfl

/-- A property that every sample keeps is kept by a buffer of any length (R83). -/
theorem generate_keeps {P : State → Prop} (draw : Nat → Fin nSteps) (sr : Rat)
    (hP : ∀ s, P s → P (sample draw sr s)) (n : Nat) : ∀ s, P s → P (generate draw sr n s) := by
  induction n with
  | zero => exact fun _ h => h
  | succ n ih => exact fun s h => ih _ (hP s h)

/-- A buffer's samples are the first sample and then the rest. -/
@[simp] theorem generate_succ (draw : Nat → Fin nSteps) (sr : Rat) (n : Nat) (s : State) :
    generate draw sr (n + 1) s = generate draw sr n (sample draw sr s) := rfl

@[simp] theorem generate_zero (draw : Nat → Fin nSteps) (sr : Rat) (s : State) : generate draw sr 0 s = s := rfl

end Sys2Proof.Machine
end

