-- ==== Sys2Proof/Laws/Exec.lean ====
section
/-! SUPPORT. What a pulse can do (spec 41_clock_sync R103), what one step can do (20_memory R52), and how runs compose
(70_reset R186). -/

namespace Sys2Proof.Machine

/-- The four cases of a pulse at `t` (R103). -/
theorem onPulse_cases (t : Rat) (s : State) :
    (s.lastPulseTimestamp = none ∧ onPulse t s = ((s.setLastPulse t).setValid false).setPulseAge 0) ∨
    (∃ t0, s.lastPulseTimestamp = some t0 ∧
      ((t - t0 ≤ 0 ∧ onPulse t s = s) ∨
       (tLoss < t - t0 ∧ onPulse t s = ((s.setValid false).setLastPulse t).setPulseAge 0) ∨
       (0 < t - t0 ∧ t - t0 ≤ tLoss ∧
         onPulse t s = (((s.setPeriod (t - t0)).setValid true).setLastPulse t).setPulseAge 0))) := by
  unfold onPulse
  cases h : s.lastPulseTimestamp with
  | none => exact .inl ⟨rfl, rfl⟩
  | some t0 =>
    refine .inr ⟨t0, rfl, ?_⟩
    dsimp only
    split
    · rename_i h0; exact .inl ⟨h0, rfl⟩
    · rename_i h0
      split
      · rename_i h1; exact .inr (.inl ⟨h1, rfl⟩)
      · rename_i h1; exact .inr (.inr ⟨not_le.mp h0, not_lt.mp h1, rfl⟩)

/-- What one step can do: hold on an empty port, execute the decoded command, or refuse a reserved word (R52, R67, R162). -/
theorem step_cases (s : State) :
    (s.port = [] ∧ step s = .next s) ∨
    (∃ w rest i, s.port = w :: rest ∧ decode w = .command i ∧ step s = exec i (s.setPort rest)) ∨
    (∃ w rest why, s.port = w :: rest ∧ decode w = .reserved why ∧ step s = .refused (.reservedEncoding why)) := by
  unfold step arrive
  cases hp : s.port with
  | nil => exact .inl ⟨rfl, rfl⟩
  | cons w rest =>
    cases hd : decode w with
    | command i => exact .inr (.inl ⟨w, rest, i, rfl, hd, by simp [hd]⟩)
    | reserved why => exact .inr (.inr ⟨w, rest, why, rfl, hd, by simp [hd]⟩)

@[simp] theorem run_nil (s : State) : run [] s = .next s := rfl

/-- A run whose first command reaches `t` goes on from `t`. -/
theorem run_cons {i : Instr} {s t : State} (h : exec i s = .next t) (is : List Instr) : run (i :: is) s = run is t := by
  simp [run, h]

end Sys2Proof.Machine
end

