-- ==== Sys2Proof/Laws/PerInstr.lean ====
section
/-! SUPPORT. Families of statements about every command as the encoding writes it, one lemma per constructor. -/

namespace Sys2Proof.Laws.Fields

/-- The word of a well-formed command holds the row's opcode byte, its `idx` field and its `imm` field, each where R60
places it. -/
def Statement (i : Instr) : Prop :=
  i.WellFormed → (encode i).toNat = i.opcode.byte * 2 ^ 56 + i.idxField * 2 ^ 48 + i.immField

/-- Fields that fit give a number that fits the word. -/
theorem assembleFields_toNat {op idx imm : Nat} (ho : op < 2 ^ 8) (hi : idx < 2 ^ 8) (hm : imm < 2 ^ 48) :
    (assembleFields op idx imm).toNat = op * 2 ^ 56 + idx * 2 ^ 48 + imm := by
  unfold assembleFields
  rw [BitVec.toNat_ofNat]
  omega

theorem byte_lt (o : Opcode) : o.byte < 2 ^ 8 := by cases o <;> decide

theorem bool_lt (b : Bool) : b.toNat < 2 ^ 8 := by cases b <;> decide

theorem bool_lt_imm (b : Bool) : b.toNat < 2 ^ 48 := by cases b <;> decide

theorem gen (sr n : Nat) : Statement (.gen sr n) := fun h =>
  assembleFields_toNat (byte_lt _) (Nat.two_pow_pos _) (by
    simp only [Instr.WellFormed, Instr.fits, Bool.and_eq_true, decide_eq_true_eq] at h
    simp only [Instr.immField]
    omega)

theorem setfreq (q : Nat) : Statement (.setfreq q) := fun h =>
  assembleFields_toNat (byte_lt _) (Nat.two_pow_pos _) (of_decide_eq_true h)

theorem setduty (q : Nat) : Statement (.setduty q) := fun h =>
  assembleFields_toNat (byte_lt _) (Nat.two_pow_pos _) (of_decide_eq_true h)

theorem setshape (sel : Bool) : Statement (.setshape sel) := fun _ =>
  assembleFields_toNat (byte_lt _) (bool_lt sel) (Nat.two_pow_pos _)

theorem setphase (q : Nat) : Statement (.setphase q) := fun h =>
  assembleFields_toNat (byte_lt _) (Nat.two_pow_pos _) (of_decide_eq_true h)

theorem setrange (sel : Bool) : Statement (.setrange sel) := fun _ =>
  assembleFields_toNat (byte_lt _) (bool_lt sel) (Nat.two_pow_pos _)

theorem pulse (q : Nat) : Statement (.pulse q) := fun h =>
  assembleFields_toNat (byte_lt _) (Nat.two_pow_pos _) (of_decide_eq_true h)

theorem setratio (k : Nat) : Statement (.setratio k) := fun h =>
  assembleFields_toNat (byte_lt _) (of_decide_eq_true h) (Nat.two_pow_pos _)

theorem setxclk (sel : Bool) : Statement (.setxclk sel) := fun _ =>
  assembleFields_toNat (byte_lt _) (bool_lt sel) (Nat.two_pow_pos _)

theorem gate : Statement .gate := fun _ => assembleFields_toNat (byte_lt _) (Nat.two_pow_pos _) (Nat.two_pow_pos _)

theorem mstep : Statement .mstep := fun _ => assembleFields_toNat (byte_lt _) (Nat.two_pow_pos _) (Nat.two_pow_pos _)

theorem setskip (k : Nat) (flag : Bool) : Statement (.setskip k flag) := fun h =>
  assembleFields_toNat (byte_lt _) (of_decide_eq_true h) (bool_lt_imm flag)

theorem setseq (k : Nat) : Statement (.setseq k) := fun h =>
  assembleFields_toNat (byte_lt _) (of_decide_eq_true h) (Nat.two_pow_pos _)

theorem settrig (sel : Bool) : Statement (.settrig sel) := fun _ =>
  assembleFields_toNat (byte_lt _) (bool_lt sel) (Nat.two_pow_pos _)

end Sys2Proof.Laws.Fields
end

