-- ==== Sys2Proof/Tests/Slice0.lean ====
section
/-! SUPPORT. The model's own tests. Expected results come from spec 95_test_vectors (the vector is named at each test) or
from the rule named; the witnesses show that the hypotheses of each statement can be met together. -/

namespace Sys2Proof.Tests

open Sys2Proof.Machine

/-- A field of the state a command reaches. -/
def after {α : Type} (f : State → α) : Host.Outcome State Fault Refusal → Option α
  | .next t => some (f t)
  | .fault _ => none
  | .refused _ => none

/-- A state of the sequencer: the active steps, the kind, the step and the direction. -/
def seqState (active : List Nat) (kind : SeqKind) (c : Fin 8) (ph : Bool) : State :=
  { State.reset with
    skipMask := Vector.ofFn fun i => !(active.contains i.val)
    sequenceKind := kind
    currentStep := c
    directionPhase := ph }

/-- Step and direction after one advance with the listed draws. -/
def advanced (draws : List (Fin 8)) (s : State) : Nat × Bool :=
  let t := advance (fun n => draws.getD n 0) s
  (t.currentStep.val, t.directionPhase)

/-- A locked clock: pulses at 1 s and 3/2 s. -/
def lockedState : State :=
  { State.reset with
    lastPulseTimestamp := some (3 / 2), measuredPeriodSeconds := some (1 / 2), valid := true, extClockEn := true }

def allSteps : List Nat := [0, 1, 2, 3, 4, 5, 6, 7]

/-! ### WellFormed: one ill-formed term for each check -/

theorem test_wellFormed_refuses_sr : ¬ (Instr.gen 4294967296 1).WellFormed := by decide
theorem test_wellFormed_refuses_n : ¬ (Instr.gen 1 65536).WellFormed := by decide
theorem test_wellFormed_refuses_q :
    ¬ (Instr.setfreq 281474976710656).WellFormed ∧ ¬ (Instr.setduty 281474976710656).WellFormed ∧
    ¬ (Instr.setphase 281474976710656).WellFormed ∧ ¬ (Instr.pulse 281474976710656).WellFormed := by decide
theorem test_wellFormed_refuses_k :
    ¬ (Instr.setratio 256).WellFormed ∧ ¬ (Instr.setskip 256 true).WellFormed ∧ ¬ (Instr.setseq 256).WellFormed := by
  decide

/-! ### Decoding: words of T-ENC-1 and T-ENC-2, written out from the encoding tables -/

/-- T-ENC-1, Oscillator Engine. -/
theorem test_decode_oscillator :
    [0x100000001F400010#64, 0x1000000000000004#64, 0x110007D000000000#64, 0x1200000050000000#64,
     0x1300000000000000#64, 0x1301000000000000#64, 0x14000000E0000000#64, 0x1501000000000000#64].map decode =
    [.command (.gen 8000 16), .command (.gen 0 4), .command (.setfreq (2000 * 2 ^ 32)),
     .command (.setduty (5 * 2 ^ 28)), .command (.setshape false), .command (.setshape true),
     .command (.setphase (7 * 2 ^ 29)), .command (.setrange true)] := by decide

/-- T-ENC-1, Clock Sync Unit. -/
theorem test_decode_clock_sync :
    [0x2000000000018000#64, 0x2000000000000010#64, 0x2110000000000000#64, 0x2201000000000000#64].map decode =
    [.command (.pulse (3 * 2 ^ 15)), .command (.pulse 16), .command (.setratio 16), .command (.setxclk true)] := by
  decide

/-- T-ENC-1, Sequencer. -/
theorem test_decode_sequencer :
    [0x3000000000000000#64, 0x3100000000000000#64, 0x3207000000000001#64, 0x3205000000000000#64,
     0x32FF000000000001#64, 0x33C8000000000000#64, 0x3401000000000000#64].map decode =
    [.command .gate, .command .mstep, .command (.setskip 7 true), .command (.setskip 5 false),
     .command (.setskip 255 true), .command (.setseq 200), .command (.settrig true)] := by decide

/-- T-ENC-2. -/
theorem test_decode_reserved :
    [0x0000000000000000#64, 0x1600000000000000#64, 0xFFFFFFFFFFFFFFFF#64, 0x1001000000080004#64,
     0x1101000280000000#64, 0x1302000000000000#64, 0x1301000000000001#64, 0x2109000000000001#64,
     0x3000000000000001#64, 0x3101000000000000#64, 0x3201000000000002#64].map decode =
    [.reserved (.unassignedOpcode 0), .reserved (.unassignedOpcode 0x16), .reserved (.unassignedOpcode 0xFF),
     .reserved (.mustBeZero 0x10), .reserved (.mustBeZero 0x11), .reserved (.mustBeZero 0x13),
     .reserved (.mustBeZero 0x13), .reserved (.mustBeZero 0x21), .reserved (.mustBeZero 0x30),
     .reserved (.mustBeZero 0x31), .reserved (.mustBeZero 0x32)] := by decide

/-- T-ENC-3 and the worked example of R70. -/
theorem test_assemble : assemble "SETFREQ 1/16" = some 0x1100000010000000#64 ∧
    assemble "SETFREQ 2.5 ; worked example" = some 0x1100000280000000#64 ∧
    assemble "SETDUTY 1/3" = none ∧ assemble "SETTRIG GATE" = some 0x3401000000000000#64 := by decide +kernel

/-- The table's word of SETSKIP, given as 64 bits and as the bits up to its highest one. -/
theorem test_decodeTableWord :
    decodeTableWord 64 0x3207000000000001 = some (.setskip 7 true) ∧ decodeTableWord 64 0 = none := by decide

/-! ### Oscillator Engine -/

/-- T-OSC-5. -/
theorem test_gen_square : after (fun t => (t.phase, t.sampleOut, t.prevSample, t.currentStep))
    (step (State.reset.withFetchWord 64 0x1000000000080004)) = some (1 / 2, [1, 1, 1, 0], some 0, 0) := by
  decide +kernel

/-- T-OSC-6: increments of 5/4, and a rising edge that advances the sequencer. -/
theorem test_gen_wraps : after (fun t => (t.phase, t.sampleOut, t.currentStep))
    (exec (.gen 1600 4) { State.reset with freeRunHz := 2000 }) = some (0, [1, 0, 0, 1], 1) := by decide +kernel

/-- T-OSC-2. -/
theorem test_wave_triangle : [0, 1 / 8, 1 / 4, 3 / 8, 5 / 8, 7 / 8].map
    (fun p => wave (1 / 1048576) .triangle p (1 / 4)) = [0, 1 / 2, 1, 5 / 6, 1 / 2, 1 / 6] := by decide +kernel

/-- T-OSC-9: below the band the rising segment divides by `EPS`. -/
theorem test_wave_epsilon : [0, 1 / 4194304, 1 / 2097152, 1 / 2].map
    (fun p => wave (1 / 1048576) .triangle p (1 / 2097152)) = [0, 1 / 4, 1, 1048576 / 2097151] := by decide +kernel

/-- T-OSC-11. -/
theorem test_setfreq : [0, 0x10000000, 0xBB800000000].map
    (fun q => after State.freeRunHz (exec (.setfreq q) State.reset)) = [some (1 / 20), some (1 / 16), some 2000] := by
  decide +kernel

/-- T-OSC-12. -/
theorem test_setduty : [0x200000000, 0x50000000].map
    (fun q => after State.dutyCycle (exec (.setduty q) State.reset)) = [some 1, some (5 / 16)] := by decide +kernel

/-- T-OSC-13. -/
theorem test_setphase : [0x140000000, 0xE0000000, 0x100000000].map
    (fun q => after State.phase (exec (.setphase q) State.reset)) = [some (1 / 4), some (7 / 8), some 0] := by
  decide +kernel

/-- T-OSC-20. -/
theorem test_setshape : exec (.setshape true) State.reset = .next { State.reset with shape := .triangle } := rfl
theorem test_setrange : exec (.setrange true) State.reset = .next { State.reset with range := .high } := rfl

/-! ### Clock Sync Unit -/

/-- T-CLK-1, third row: the late pulse keeps the period and starts a new pair. -/
theorem test_pulse_late : after (fun t => (t.lastPulseTimestamp, t.measuredPeriodSeconds, t.valid))
    (exec (.pulse 0x1A8000) lockedState) = some (some (53 / 2), some (1 / 2), false) := by decide +kernel

/-- T-CLK-3: a period of exactly 20 s is valid. -/
theorem test_pulse_edge : after (fun t => (t.measuredPeriodSeconds, t.valid))
    (exec (.pulse 0x190000) { State.reset with lastPulseTimestamp := some 5 }) = some (some 20, true) := by
  decide +kernel

/-- T-CLK-2 and T-CLK-5. -/
theorem test_setratio : [0, 7, 9, 17, 200].map (fun k => after (fun t => ratio t.ratioIndex)
    (exec (.setratio k) State.reset)) = [some (1 / 9), some (1 / 2), some 2, some 9, some 9] := by decide +kernel

theorem test_setxclk : exec (.setxclk true) State.reset = .next { State.reset with extClockEn := true } := rfl

/-- T-CLK-8: the slaved frequency is not clamped. -/
theorem test_gen_slaved : after (fun t => (t.sampleOut, t.currentStep, effFreq t))
    (exec (.gen 48000 3) { lockedState with measuredPeriodSeconds := some (1 / 4096), ratioIndex := 16 }) =
    some ([0, 0, 1], 1, some 36864) := by decide +kernel

/-- T-CLK-6, the last sample: the timer passes 20 s and that sample is free-running. -/
theorem test_gen_expires : after (fun t => (t.pulseAge, t.valid, t.phase))
    (exec (.gen 1 1) { lockedState with pulseAge := 20, freeRunHz := 1 / 4 }) = some (21, false, 1 / 4) := by
  decide +kernel

/-! ### Sequencer -/

/-- T-SEQ-1, T-SEQ-15, T-SEQ-16, T-SEQ-18. -/
theorem test_advance_walks :
    [advanced [] (seqState allSteps .up 7 true), advanced [] (seqState allSteps .down 0 true),
     advanced [] (seqState [3] .upDown 3 true), advanced [] (seqState allSteps .upDown 7 true),
     advanced [] (seqState [2] .up 2 true)] =
    [(0, true), (7, true), (3, false), (6, false), (2, true)] := by decide +kernel

/-- T-SEQ-10, T-SEQ-11, T-SEQ-12, T-SEQ-13. -/
theorem test_advance_alternating :
    [advanced [] (seqState [0, 1, 3, 4, 5, 6, 7] .p2m1 0 true), advanced [] (seqState [6] .p2m1 0 true),
     advanced [] (seqState [4] .p2m1 0 false), advanced [] (seqState [3] .p1m2 0 true),
     advanced [] (seqState [3] .m3p5 0 true)] =
    [(1, true), (0, true), (4, false), (0, true), (3, false)] := by decide +kernel

/-- T-SEQ-19: three draws on skipped steps, then one on the active step. -/
theorem test_advance_random : advanced [3, 3, 7, 0] (seqState [0] .random 0 true) = (0, true) ∧
    (advance (fun n => [3, 3, 7, 0].getD n 0) (seqState [0] .random 0 true)).drawCount = 4 := by decide +kernel

/-- The example of R122. -/
theorem test_boundaries :
    lowestActive #v[true, false, false, true, false, true, true, true] = some 1 ∧
    highestActive #v[true, false, false, true, false, true, true, true] = some 4 := by decide +kernel

/-- T-SEQ-20. -/
theorem test_gate : after (fun t => t.currentStep) (exec .gate State.reset) = some 0 ∧
    after (fun t => t.currentStep) (exec .gate { State.reset with trigSel := .externalGate }) = some 1 := by
  decide +kernel

/-- T-SEQ-6. -/
theorem test_mstep : after (fun t => t.currentStep)
    (exec .mstep (seqState [0, 2, 3, 4, 5, 6, 7] .up 0 true)) = some 2 := by decide +kernel

/-- The example of R131. -/
theorem test_setskip : after (fun t => t.skipMask.toList) (exec (.setskip 1 true) State.reset) =
    some [false, true, false, false, false, false, false, false] := by decide +kernel
theorem test_setskip_rejects : exec (.setskip 9 true) State.reset = .next State.reset := rfl

/-- The example of R132, and T-SEQ-9. -/
theorem test_setseq : after (fun t => (t.sequenceKind, t.directionPhase))
    (exec (.setseq 4) (seqState allSteps .upDown 5 false)) = some (.p2m1, true) := by decide +kernel
theorem test_setseq_keeps : [4, 7, 200].map (fun k => after State.directionPhase
    (exec (.setseq k) (seqState allSteps .p2m1 2 false))) = [some false, some false, some false] := by decide +kernel

theorem test_settrig : exec (.settrig true) State.reset = .next { State.reset with trigSel := .externalGate } := rfl

/-- R6: eight ordinals, seven of them implemented. -/
theorem test_kind_counts : nKinds = 8 ∧ (kindTable.toList.filter Option.isSome).length = nImplementedKinds := by decide

/-! ### Witnesses: the hypotheses of the statements can be met -/

/-- `Inv` can be met, with a locked clock. -/
theorem witness_Inv : Inv lockedState where
  phase_range := by decide +kernel
  freq_range := by decide +kernel
  duty_range := by decide +kernel
  valid_locked := fun _ => ⟨⟨_, rfl⟩, by decide, by decide +kernel⟩
  period_range := by rintro p ⟨⟩; decide +kernel
  period_after_pulse := fun _ => by decide
  timestamp_range := by rintro t ⟨⟩; decide +kernel
  prev_range := by rintro v ⟨⟩
  age_range := by decide +kernel
  samples_range := by rintro v ⟨⟩
  params_range := by decide +kernel

theorem witness_DecodeInvertsEncode : (Instr.gen 4294967295 65535).WellFormed ∧
    (Instr.setfreq 281474976710655).WellFormed ∧ (Instr.setskip 255 true).WellFormed ∧ Instr.mstep.WellFormed := by
  decide

theorem witness_EncodeInvertsDecode : decode 0x1000FFFFFFFFFFFF#64 = .command (.gen 4294967295 65535) := by decide

theorem witness_LegalExactlyWhenOneRowSelects :
    Opcode.selects .setskip 0x32FF000000000001#64 = true ∧
    (bits 0x3200000000000002#64 63 56 = Opcode.byte .setskip ∧
      mustBeZeroClear (Opcode.format .setskip) 0x3200000000000002#64 = false) := by decide

theorem witness_ReservedWordsAreRefused :
    (∀ o : Opcode, bits 0x1600000000000000#64 63 56 ≠ o.byte) ∧
    mustBeZeroClear (Opcode.format .gate) 0x3000000000000001#64 = false ∧
    ({ State.reset with port := [0#64] } : State).port = 0#64 :: [] :=
  ⟨fun o => by cases o <;> decide, by decide, rfl⟩

theorem witness_StepRunsTheArrivingCommand :
    ({ State.reset with port := [0x3100000000000000#64] } : State).port = 0x3100000000000000#64 :: [] ∧
    decode 0x3100000000000000#64 = .command .mstep ∧ State.reset.port = [] := ⟨rfl, by decide, rfl⟩

theorem witness_CommandSequenceRunsInOrder : ∀ i ∈ [Instr.setfreq 0, .gen 8 4, .gate], i.WellFormed := by decide

theorem witness_MergedHostSequencesComplete :
    Merged [[0x3000000000000000#64], [0x3100000000000000#64]] [0x3100000000000000#64, 0x3000000000000000#64] ∧
    LegalWord 0x3000000000000000#64 ∧ LegalWord 0x3100000000000000#64 :=
  ⟨.take [[0x3000000000000000#64]] [] _ [] _ (.take [] [[]] _ [] _ (.done _ (by simp))),
    ⟨.gate, by decide⟩, ⟨.mstep, by decide⟩⟩

theorem witness_StepKeepsInvariants : Inv lockedState ∧ AgeBound lockedState ∧
    step lockedState = .next lockedState := ⟨witness_Inv, by decide +kernel, rfl⟩

theorem witness_LegalResetMeetsInvariants : resetTable.Legal ∧ defaultParams.InRange := by decide +kernel

theorem witness_StepTracksLatestSample : StreamTracked lockedState ∧ step lockedState = .next lockedState :=
  ⟨by decide +kernel, rfl⟩

/-- Each named writer does change its register somewhere. -/
theorem witness_RegistersHaveOnlyTheirWriters :
    after State.phase (exec (.setphase 1073741824) State.reset) = some (1 / 4) ∧
    after State.freeRunHz (exec (.setfreq 0) State.reset) ≠ some 1 ∧
    after State.dutyCycle (exec (.setduty 0) State.reset) = some 0 ∧
    after State.shape (exec (.setshape true) State.reset) = some .triangle ∧
    after State.range (exec (.setrange true) State.reset) = some .high ∧
    after State.extClockEn (exec (.setxclk true) State.reset) = some true ∧
    after State.lastPulseTimestamp (exec (.pulse 0) State.reset) = some (some 0) ∧
    after State.measuredPeriodSeconds (exec (.pulse 163840) lockedState) = some (some 1) ∧
    after State.valid (exec (.pulse 6553600) lockedState) = some false ∧
    after State.ratioIndex (exec (.setratio 0) State.reset) = some 0 ∧
    after State.pulseAge (exec (.gen 1 1) lockedState) = some 1 ∧
    after State.currentStep (exec .mstep State.reset) = some 1 ∧
    after (fun t => t.skipMask[(0 : Fin 8)]) (exec (.setskip 0 true) State.reset) = some true ∧
    after State.sequenceKind (exec (.setseq 6) State.reset) = some .m3p5 ∧
    after State.directionPhase (exec .mstep (seqState allSteps .p2m1 0 true)) = some false ∧
    after State.trigSel (exec (.settrig true) State.reset) = some .externalGate ∧
    after State.prevSample (exec (.gen 8 1) State.reset) = some (some 1) ∧
    after State.sampleOut (exec (.gen 8 1) State.reset) = some [1] := by decide +kernel

theorem witness_RangeIsReadByNothing :
    ∃ t, run [.setrange true, .mstep] State.reset = .next t := ⟨_, rfl⟩

theorem witness_WaveStaysInUnitInterval :
    (0 : Rat) < 1 / 1048576 ∧ (0 : Rat) ≤ 0 ∧ (0 : Rat) < 1 ∧ (1 : Rat) ≤ 1 := by decide +kernel

theorem witness_TriangleMeetsItsCorners : (0 : Rat) < 1 / 4 ∧ (1 / 4 : Rat) < 1 ∧ (1 / 4 : Rat) ≤ 1 / 4 ∧
    (1 / 4 : Rat) ≤ 1 - 1 / 4 ∧ (0 : Rat) ≤ 3 / 4 ∧ (3 / 4 : Rat) < 1 := by decide +kernel

/-- The free-running sample of T-OSC-4, where nothing fires. -/
theorem witness_OneSampleFollowsTheAlgorithm :
    0 < 8 ∧ (State.reset.extClockEn && (State.reset.valid && decide (State.reset.pulseAge ≤ 20))) = false ∧
    (0 : Rat) ≤ 1 / 8 ∧ (1 / 8 : Rat) < 1 ∧
    State.reset.phase + State.reset.freeRunHz / ((8 : Nat) : Rat) = 1 / 8 + ((0 : Int) : Rat) ∧
    State.reset.prevSample = none := by decide +kernel

/-- A slaved sample that fires: the previous sample is 0, the phase wraps to 0. -/
theorem witness_OneSampleFollowsTheAlgorithm_fires :
    let s := { lockedState with prevSample := some 0 }
    (s.extClockEn && (s.valid && decide (s.pulseAge + 1 / ((2 : Nat) : Rat) ≤ 20))) = true ∧
    s.measuredPeriodSeconds = some (1 / 2) ∧ (2 : Rat) = ratio s.ratioIndex / (1 / 2) ∧
    s.phase + 2 / ((2 : Nat) : Rat) = 0 + ((1 : Int) : Rat) ∧ (0 : Rat) < s.dutyCycle ∧
    s.prevSample = some 0 ∧ 0 < s.params.edgeTh ∧ s.params.edgeTh ≤ 1 ∧ s.trigSel = .internal := by decide +kernel

theorem witness_GenRepeatsSamples : 4294967295 < 2 ^ 32 ∧ 65535 < 2 ^ 16 ∧ 4294967295 ≠ 0 := by decide

theorem witness_GenEmitsItsSamples : Inv lockedState ∧ 1 ≠ 0 := ⟨witness_Inv, by decide⟩

/-- T-OSC-17's buffer, with the LFO free-running although a clock is locked. -/
theorem witness_SquareDutyFraction :
    let s := { lockedState with extClockEn := false }
    Inv s ∧ s.shape = .square ∧ s.extClockEn = false ∧ 0 < 8 ∧ s.freeRunHz * ((8 : Nat) : Rat) = ((8 : Nat) : Rat) ∧
    0 < 8 ∧ s.phase = ((0 : Nat) : Rat) / ((8 : Nat) : Rat) :=
  ⟨{ witness_Inv with }, rfl, rfl, by decide, by decide +kernel, by decide, by decide +kernel⟩

theorem witness_ConstantSquareNeverAdvances :
    State.reset.params.InRange ∧ State.reset.shape = .square ∧
    ({ State.reset with dutyCycle := 0 } : State).dutyCycle = 0 ∧
    ({ State.reset with dutyCycle := 1, prevSample := some 1 } : State).dutyCycle = 1 ∧
    State.reset.params.edgeTh ≤ 1 := by decide +kernel

theorem witness_PhaseAdvancesByTheSelectedFrequency :
    Inv lockedState ∧ lockedState.extClockEn = true ∧ lockedState.valid = true ∧
    lockedState.measuredPeriodSeconds = some (1 / 2) ∧
    lockedState.pulseAge + ((20 : Nat) : Rat) / ((1 : Nat) : Rat) ≤ 20 ∧ State.reset.extClockEn = false :=
  ⟨witness_Inv, rfl, rfl, rfl, by decide +kernel, rfl⟩

theorem witness_TimerExpiresAfterTheWindow : Inv lockedState ∧ lockedState.valid = true ∧ 1 ≠ 0 ∧
    lockedState.pulseAge + ((20 : Nat) : Rat) / ((1 : Nat) : Rat) ≤ 20 ∧
    ¬ lockedState.pulseAge + ((21 : Nat) : Rat) / ((1 : Nat) : Rat) ≤ 20 :=
  ⟨witness_Inv, rfl, by decide, by decide +kernel, by decide +kernel⟩

/-- The three tests of R103 meet at the stored timestamp and at 20 s after it. -/
theorem witness_PulseMeasuresThePeriod : State.reset.lastPulseTimestamp = none ∧
    lockedState.lastPulseTimestamp = some (3 / 2) ∧
    ((98304 : Nat) : Rat) / 2 ^ 16 ≤ 3 / 2 ∧ (3 / 2 : Rat) < ((98305 : Nat) : Rat) / 2 ^ 16 ∧
    ((1409024 : Nat) : Rat) / 2 ^ 16 ≤ 3 / 2 + 20 ∧ (3 / 2 + 20 : Rat) < ((1409025 : Nat) : Rat) / 2 ^ 16 := by
  decide +kernel

theorem witness_PulsePairLocksTheFrequency : 65536 < 65537 ∧ 1376256 ≤ 65536 + 20 * 2 ^ 16 ∧
    TimestampIncreases State.reset 65536 ∧ TimestampIncreases lockedState 98305 :=
  ⟨by decide, by decide, by rintro t0 ⟨⟩, by rintro t0 ⟨⟩; decide +kernel⟩

/-- Twenty seconds of samples between pulses twenty seconds apart. -/
theorem witness_OneTimeBaseKeepsTheLock : lockedState.valid = true ∧
    lockedState.lastPulseTimestamp = some (q32_16 98304) ∧ lockedState.pulseAge = 0 ∧
    98304 < 1409024 ∧ 1409024 ≤ 98304 + 20 * 2 ^ 16 ∧ OneTimeBase 1 20 98304 1409024 :=
  ⟨rfl, by decide +kernel, rfl, by decide, by decide, by unfold OneTimeBase; decide +kernel⟩

theorem witness_LifecycleMovesOnlyAsDrawn :
    situation State.reset = .idle ∧ situation lockedState = .locked ∧ Inv lockedState ∧
    after situation (exec (.pulse 0) State.reset) = some .armed ∧
    after situation (exec (.pulse 1) { State.reset with lastPulseTimestamp := some 0 }) = some .locked ∧
    after situation (exec (.gen 1 21) lockedState) = some .armed :=
  ⟨by decide +kernel, by decide +kernel, witness_Inv, by decide +kernel, by decide +kernel, by decide +kernel⟩

theorem witness_EffFreqIsTheScaledClock : Inv lockedState ∧ lockedState.valid = true ∧
    Inv { lockedState with valid := false } ∧ ({ lockedState with valid := false } : State).valid = false :=
  ⟨witness_Inv, rfl, { witness_Inv with valid_locked := fun h => nomatch h }, rfl⟩

/-- Step 2 is the lowest of the active steps 2 and 5 and step 5 the highest; step 3 is neither; with one active step
both tests fire on it. -/
theorem witness_UpdownTurnsAtTheBoundary :
    let two := (seqState [2, 5] .upDown 2 true).skipMask
    let one := (seqState [3] .upDown 3 true).skipMask
    (two[(2 : Fin 8)] = false ∧ ∀ j : Fin 8, j < 2 → two[j] = true) ∧
    (two[(5 : Fin 8)] = false ∧ ∀ j : Fin 8, 5 < j → two[j] = true) ∧ two[(3 : Fin 8)] = true ∧
    (one[(3 : Fin 8)] = false ∧ (∀ j : Fin 8, j < 3 → one[j] = true) ∧ ∀ j : Fin 8, 3 < j → one[j] = true) := by
  decide +kernel

/-- Up with only the current step active commits on the eighth probe (T-SEQ-18). -/
theorem witness_AdvanceCommitsTheFirstActiveProbe :
    (∀ j, 1 ≤ j → j < 8 →
      (seqState [2] .up 2 true).skipMask[(chained Config.draw (seqState [2] .up 2 true) j).1] = true) ∧
    (seqState [2] .up 2 true).skipMask[(chained Config.draw (seqState [2] .up 2 true) 8).1] = false ∧
    (∀ j, 1 ≤ j → j ≤ 8 →
      (seqState [] .up 2 true).skipMask[(chained Config.draw (seqState [] .up 2 true) j).1] = true) :=
  ⟨by intro j h1 h2; interval_cases j <;> decide +kernel, by decide +kernel,
    by intro j h1 h2; interval_cases j <;> decide +kernel⟩

theorem witness_GateFollowsTheTriggerMode : State.reset.trigSel = .internal ∧
    ({ State.reset with trigSel := .externalGate } : State).trigSel = .externalGate := ⟨rfl, rfl⟩

theorem witness_ActiveStepIsAlwaysFound : (seqState [6] .upDown 3 true).sequenceKind = .upDown ∧
    (seqState [6] .upDown 3 true).skipMask[(6 : Fin 8)] = false := by decide +kernel

theorem witness_ProbeOffsetsAreTheTable : (seqState allSteps .p2m1 7 false).sequenceKind = .p2m1 ∧
    (seqState allSteps .p2m1 7 false).directionPhase = false ∧
    (seqState allSteps .p1m2 0 true).sequenceKind = .p1m2 ∧ (seqState allSteps .m3p5 0 true).sequenceKind = .m3p5 :=
  ⟨rfl, rfl, rfl, rfl⟩

/-- Every answer of the draw lands on an active step when none is skipped, and on a skipped one when all are. -/
theorem witness_RandomLandsOnItsDraws :
    (∀ d : Fin 8, (seqState allSteps .random 0 true).skipMask[d] = false) ∧
    (∀ d : Fin 8, (seqState [] .random 0 true).skipMask[d] = true) ∧
    (seqState allSteps .random 0 true).sequenceKind = .random := by decide +kernel

theorem witness_AllSkippedHolds : ∀ i : Fin 8, (seqState [] .p1m2 5 false).skipMask[i] = true := by decide +kernel

theorem witness_MovesEndOnActiveSteps :
    after State.currentStep (exec .mstep (seqState [3] .up 0 true)) = some 3 ∧
    (seqState [3] .up 0 true).currentStep = 0 := by decide +kernel

theorem witness_UpdownSweepsAllSteps :
    (∀ i : Fin 8, (seqState allSteps .upDown 0 true).skipMask[i] = false) ∧
    (seqState allSteps .upDown 0 true).sequenceKind = .upDown ∧
    (seqState allSteps .upDown 0 true).currentStep = 0 ∧
    (seqState allSteps .upDown 0 true).directionPhase = true := by decide +kernel

theorem witness_PlusTwoMinusOneClimbs :
    (∀ i : Fin 8, (seqState allSteps .p2m1 0 true).skipMask[i] = false) ∧
    (seqState allSteps .p2m1 0 true).sequenceKind = .p2m1 ∧
    (seqState allSteps .p2m1 0 true).currentStep = 0 ∧
    (seqState allSteps .p2m1 0 true).directionPhase = true := by decide +kernel

theorem witness_SetseqChangesTheKind : State.reset.sequenceKind = .up ∧
    State.reset.sequenceKind ≠ ([.up, .down, .upDown, .random, .p2m1, .p1m2, .m3p5] : List SeqKind)[6] ∧
    6 < 7 ∧ 7 ≤ 7 := by decide

theorem witness_SetCommandsCommute : isSetCommand (.setseq 4) = true ∧ isSetCommand (.setskip 2 true) = true ∧
    (Instr.setseq 4).opcode ≠ (Instr.setskip 2 true).opcode := by decide

theorem witness_AssembledWordsAreLegal : assemble "MSTEP" = some 0x3100000000000000#64 := by decide +kernel

end Sys2Proof.Tests
end

namespace Sys2Proof.Machine

/-- U6: the components of `ResetCfg` meet R46 by legality, and the clock starts idle (no pulse, no period, not valid)
with no sample emitted, so the invariants about those have nothing to constrain. -/
theorem inv_resetWith {c : ResetCfg} {p : Params} (hc : c.Legal) (hp : p.InRange) : Inv (State.resetWith c p) := by
  obtain ⟨hphase, hfreq, hduty, hage⟩ := hc
  exact {
    phase_range := hphase
    freq_range := hfreq
    duty_range := hduty
    valid_locked := nofun
    period_range := nofun
    period_after_pulse := fun hne => absurd rfl hne
    timestamp_range := nofun
    prev_range := nofun
    age_range := hage
    samples_range := nofun
    params_range := hp }

/-- Settles O15, component by component of the reset state. -/
theorem legalResetMeetsInvariants : Obligations.LegalResetMeetsInvariants :=
  fun _ _ => inv_resetWith

end Sys2Proof.Machine

namespace Sys2Proof.Machine

/-! ### What every command can do -/

/-- The state a command completes in, one constructor per outcome of its rule, guards included (R66). -/
inductive Executes : Instr → State → State → Prop where
  | genIgnored (n : Nat) (s : State) : Executes (.gen 0 n) s s
  | gen {sr : Nat} (n : Nat) (s : State) (rate_pos : sr ≠ 0) : Executes (.gen sr n) s (generate Config.draw sr n s)
  | setfreq (q : Nat) (s : State) : Executes (.setfreq q) s (s.setFreeRunHz (clamp (q16_32 q) fMin fMax))
  | setduty (q : Nat) (s : State) : Executes (.setduty q) s (s.setDutyCycle (clamp (q16_32 q) 0 1))
  | setshape (sel : Bool) (s : State) : Executes (.setshape sel) s (s.setShape (shapeOf sel))
  | setphase (q : Nat) (s : State) : Executes (.setphase q) s (s.setPhase (frac (q16_32 q)))
  | setrange (sel : Bool) (s : State) : Executes (.setrange sel) s (s.setRange (rangeOf sel))
  | pulse (q : Nat) (s : State) : Executes (.pulse q) s (onPulse (q32_16 q) s)
  | setratio (k : Nat) (s : State) : Executes (.setratio k) s (s.setRatioIndex (ratioIndexOf k))
  | setxclk (sel : Bool) (s : State) : Executes (.setxclk sel) s (s.setExtClockEn sel)
  | gateIgnored (s : State) (internal : s.trigSel = .internal) : Executes .gate s s
  | gate (s : State) (external : s.trigSel = .externalGate) : Executes .gate s (advance Config.draw s)
  | mstep (s : State) : Executes .mstep s (advance Config.draw s)
  | setskip {k : Nat} (flag : Bool) (s : State) (h : k < nSteps) :
      Executes (.setskip k flag) s (s.setSkipMask (s.skipMask.set k flag h))
  | setskipRejected {k : Nat} (flag : Bool) (s : State) (h : ¬ k < nSteps) : Executes (.setskip k flag) s s
  | setseq {k : Nat} {kind : SeqKind} (s : State) (named : kindOf k = some kind) (other : kind ≠ s.sequenceKind) :
      Executes (.setseq k) s (s.changeKind kind)
  | setseqSame {k : Nat} (s : State) (named : kindOf k = some s.sequenceKind) : Executes (.setseq k) s s
  | setseqRejected {k : Nat} (s : State) (unnamed : kindOf k = none) : Executes (.setseq k) s s
  | settrig (sel : Bool) (s : State) : Executes (.settrig sel) s (s.setTrigSel (trigOf sel))

/-- Every command completes, in a state its rule allows. -/
theorem exec_executes (i : Instr) (s : State) : ∃ t, exec i s = .next t ∧ Executes i s t := by
  cases i with
  | gen sr n =>
    by_cases h : sr = 0
    · subst h; exact ⟨s, rfl, .genIgnored n s⟩
    · exact ⟨_, if_neg h, .gen n s h⟩
  | setfreq q => exact ⟨_, rfl, .setfreq q s⟩
  | setduty q => exact ⟨_, rfl, .setduty q s⟩
  | setshape sel => exact ⟨_, rfl, .setshape sel s⟩
  | setphase q => exact ⟨_, rfl, .setphase q s⟩
  | setrange sel => exact ⟨_, rfl, .setrange sel s⟩
  | pulse q => exact ⟨_, rfl, .pulse q s⟩
  | setratio k => exact ⟨_, rfl, .setratio k s⟩
  | setxclk sel => exact ⟨_, rfl, .setxclk sel s⟩
  | gate =>
    cases h : s.trigSel with
    | internal => exact ⟨s, by simp [exec, execGate, h], .gateIgnored s h⟩
    | externalGate => exact ⟨_, by simp [exec, execGate, h], .gate s h⟩
  | mstep => exact ⟨_, rfl, .mstep s⟩
  | setskip k flag =>
    by_cases h : k < nSteps
    · exact ⟨_, dif_pos h, .setskip flag s h⟩
    · exact ⟨s, dif_neg h, .setskipRejected flag s h⟩
  | setseq k =>
    cases h : kindOf k with
    | none => exact ⟨s, by simp [exec, execSetseq, h], .setseqRejected s h⟩
    | some kind =>
      by_cases same : kind = s.sequenceKind
      · exact ⟨s, by simp [exec, execSetseq, h, same], .setseqSame s (same ▸ h)⟩
      · exact ⟨_, by simp [exec, execSetseq, h, same], .setseq s h same⟩
  | settrig sel => exact ⟨_, rfl, .settrig sel s⟩

/-- `Executes` is the graph of the commands, so a proof about what a command does may split on it. -/
theorem exec_eq_next_iff {i : Instr} {s t : State} : exec i s = .next t ↔ Executes i s t := by
  obtain ⟨u, hu, hx⟩ := exec_executes i s
  constructor
  · intro h
    obtain rfl : u = t := by simpa [hu] using h
    exact hx
  · intro h
    cases h with
    | gen n s h => exact if_neg h
    | gateIgnored s h | gate s h => simp [exec, execGate, h]
    | setskip flag s h => exact dif_pos h
    | setskipRejected flag s h => exact dif_neg h
    | setseq s h other => simp [exec, execSetseq, h, other]
    | setseqSame s h | setseqRejected s h => simp [exec, execSetseq, h]
    | _ => rfl

/-- A property that the arrival of a word and every command keep is kept by every step (R52). -/
theorem step_keeps {P : State → Prop} (hport : ∀ s ws, P s → P (s.setPort ws))
    (hexec : ∀ i s t, Executes i s t → P s → P t) {s t : State} (hs : P s) (h : step s = .next t) : P t := by
  obtain ⟨-, e⟩ | ⟨w, rest, i, -, -, e⟩ | ⟨w, rest, why, -, -, e⟩ := step_cases s
  · obtain rfl : s = t := by simpa [e] using h
    exact hs
  · exact hexec i _ t (exec_eq_next_iff.mp (e ▸ h)) (hport s rest hs)
  · simp [e] at h

/-! ### Frames of a buffer and of a pulse -/

/-- The registers one SAMPLE leaves alone. -/
theorem sample_frame (draw : Nat → Fin nSteps) (sr : Rat) (s : State) :
    sample draw sr s = { s with
      phase := (sample draw sr s).phase
      valid := (sample draw sr s).valid
      pulseAge := (sample draw sr s).pulseAge
      currentStep := (sample draw sr s).currentStep
      directionPhase := (sample draw sr s).directionPhase
      prevSample := (sample draw sr s).prevSample
      sampleOut := (sample draw sr s).sampleOut
      drawCount := (sample draw sr s).drawCount } := by
  obtain h | ⟨-, h⟩ := sample_cases draw sr s
  · rw [h, sampleEmitted_frame]
  · rw [h, advance_frame, sampleEmitted_frame]

/-- The registers a buffer of samples leaves alone (R82, R83). -/
theorem generate_frame (draw : Nat → Fin nSteps) (sr : Rat) (n : Nat) (s : State) :
    generate draw sr n s = { s with
      phase := (generate draw sr n s).phase
      valid := (generate draw sr n s).valid
      pulseAge := (generate draw sr n s).pulseAge
      currentStep := (generate draw sr n s).currentStep
      directionPhase := (generate draw sr n s).directionPhase
      prevSample := (generate draw sr n s).prevSample
      sampleOut := (generate draw sr n s).sampleOut
      drawCount := (generate draw sr n s).drawCount } := by
  induction n generalizing s with
  | zero => rfl
  | succ n ih => rw [generate_succ, ih, sample_frame]

/-- The registers a pulse leaves alone (R103). -/
theorem onPulse_frame (t : Rat) (s : State) :
    onPulse t s = { s with
      lastPulseTimestamp := (onPulse t s).lastPulseTimestamp
      measuredPeriodSeconds := (onPulse t s).measuredPeriodSeconds
      valid := (onPulse t s).valid
      pulseAge := (onPulse t s).pulseAge } := by
  obtain ⟨-, h⟩ | ⟨t0, -, ⟨-, h⟩ | ⟨-, h⟩ | ⟨-, -, h⟩⟩ := onPulse_cases t s <;> rw [h] <;> rfl

/-- What SAMPLE makes of `valid` is the timer's doing alone (R82). -/
@[simp] theorem sample_valid (draw : Nat → Fin nSteps) (sr : Rat) (s : State) :
    (sample draw sr s).valid = (clockLossTimer sr s).valid := by
  obtain e | ⟨-, e⟩ := sample_cases draw sr s <;> simp [e, sampleEmitted]

@[simp] theorem sample_pulseAge (draw : Nat → Fin nSteps) (sr : Rat) (s : State) :
    (sample draw sr s).pulseAge = (clockLossTimer sr s).pulseAge := by
  obtain e | ⟨-, e⟩ := sample_cases draw sr s <;> simp [e, sampleEmitted]

/-! ### Writers of the registers -/

/-- Settles O19: the frames of a buffer, a pulse and an advance, and one register per other command. -/
theorem registersHaveOnlyTheirWriters : Obligations.RegistersHaveOnlyTheirWriters := by
  intro i s t h
  cases exec_eq_next_iff.mp h with
  | gen n s h => rw [generate_frame]; simp [Instr.opcode]
  | pulse q s => rw [onPulse_frame]; simp [Instr.opcode]
  | _ => simp [Instr.opcode]

/-! ### The shaper -/

/-- The floor `EPS` only enlarges a triangle's denominator, so a quotient of `0 ≤ x ≤ y` stays in [0,1] (R81). -/
theorem div_max_mem_unit {x y eps : Rat} (heps : 0 < eps) (h0 : 0 ≤ x) (h1 : x ≤ y) :
    0 ≤ x / max y eps ∧ x / max y eps ≤ 1 := by
  have hmax : 0 < max y eps := lt_max_of_lt_right heps
  exact ⟨div_nonneg h0 hmax.le, (div_le_one hmax).mpr (h1.trans (le_max_left y eps))⟩

/-- Both shapes stay in [0,1] (R81). -/
theorem wave_mem_unit {eps p d : Rat} (shape : Shape) (heps : 0 < eps) (hp0 : 0 ≤ p) (hp1 : p < 1) :
    0 ≤ wave eps shape p d ∧ wave eps shape p d ≤ 1 := by
  cases shape with
  | square => by_cases h : p < d <;> simp [wave, h]
  | triangle =>
    by_cases h : p < d
    · simpa only [wave, h, if_true] using div_max_mem_unit heps hp0 h.le
    · have fall := div_max_mem_unit (y := 1 - d) heps (sub_nonneg.mpr (not_lt.mp h)) (by linarith)
      simp only [wave, h, if_false]
      constructor <;> linarith

/-- Settles O25: the duty's own range is not needed. -/
theorem waveStaysInUnitInterval : Obligations.WaveStaysInUnitInterval :=
  fun _ _ _ shape heps hp0 hp1 _ _ => wave_mem_unit shape heps hp0 hp1

/-! ### The invariants -/

section
variable {s : State} (h : Inv s)
include h

/-- An advance writes no register the invariants speak of. -/
theorem Inv.advance (draw : Nat → Fin nSteps) : Inv (advance draw s) := by
  rw [advance_frame]; exact { h with }

/-- A valid clock ages within the window or expires (R46, R107). -/
theorem Inv.clockLossTimer {sr : Rat} (hsr : 0 < sr) : Inv (clockLossTimer sr s) := by
  have aged : 0 ≤ s.pulseAge + 1 / sr := add_nonneg h.age_range (one_div_pos.mpr hsr).le
  obtain ⟨-, e⟩ | ⟨-, within, e⟩ | ⟨-, -, e⟩ := clockLossTimer_cases sr s <;> rw [e]
  · exact h
  · exact { h with
      age_range := aged
      valid_locked := fun hv => ⟨(h.valid_locked hv).1, (h.valid_locked hv).2.1, within⟩ }
  · exact { h with age_range := aged, valid_locked := nofun }

/-- Emission of a value in [0,1]. -/
theorem Inv.emit {v : Rat} (hv : 0 ≤ v ∧ v ≤ 1) : Inv (s.emit v) :=
  { h with
    prev_range := by rintro _ ⟨⟩; exact hv
    samples_range := by
      intro w hw
      obtain hold | rfl : w ∈ s.sampleOut ∨ w = v := by simpa [State.emit] using hw
      · exact h.samples_range w hold
      · exact hv }

/-- A phase reduced modulo 1. -/
theorem Inv.setPhase_frac (x : Rat) : Inv (s.setPhase (frac x)) :=
  { h with phase_range := ⟨frac_nonneg x, frac_lt_one x⟩ }

/-- A sample's phase is reduced and its value shaped, so both lie in their ranges (R82). -/
theorem Inv.sampleEmitted {sr : Rat} (hsr : 0 < sr) : Inv (sampleEmitted sr s) := by
  have timed := h.clockLossTimer hsr
  exact (timed.setPhase_frac _).emit
    (wave_mem_unit _ timed.params_range.1.1 (frac_nonneg _) (frac_lt_one _))

theorem Inv.sample (draw : Nat → Fin nSteps) {sr : Rat} (hsr : 0 < sr) : Inv (sample draw sr s) := by
  obtain e | ⟨-, e⟩ := sample_cases draw sr s <;> rw [e]
  · exact h.sampleEmitted hsr
  · exact (h.sampleEmitted hsr).advance draw

theorem Inv.generate (draw : Nat → Fin nSteps) {sr : Rat} (hsr : 0 < sr) (n : Nat) : Inv (generate draw sr n s) :=
  generate_keeps draw sr (fun _ hs => hs.sample draw hsr) n s h

/-- A pulse stores a period in the window, or leaves the clock not valid (R46, R103). -/
theorem Inv.onPulse {t : Rat} (ht : 0 ≤ t) : Inv (onPulse t s) := by
  have stamped : ∀ u, some t = some u → 0 ≤ u := by rintro _ ⟨⟩; exact ht
  obtain ⟨-, e⟩ | ⟨t0, -, ⟨-, e⟩ | ⟨-, e⟩ | ⟨hpos, hwin, e⟩⟩ := onPulse_cases t s <;> rw [e]
  · exact { h with
      valid_locked := nofun, period_after_pulse := nofun, timestamp_range := stamped, age_range := le_rfl }
  · exact h
  · exact { h with
      valid_locked := nofun, period_after_pulse := nofun, timestamp_range := stamped, age_range := le_rfl }
  · exact { h with
      valid_locked := fun _ => ⟨⟨_, rfl⟩, nofun, by norm_num [tLoss]⟩
      period_range := by rintro _ ⟨⟩; exact ⟨hpos, hwin⟩
      period_after_pulse := nofun, timestamp_range := stamped, age_range := le_rfl }

end

/-- A sample rate that GEN does not ignore is at least one hertz (R83). -/
theorem one_le_rate {sr : Nat} (h : sr ≠ 0) : (1 : Rat) ≤ sr := by exact_mod_cast Nat.one_le_iff_ne_zero.mpr h

theorem rate_pos {sr : Nat} (h : sr ≠ 0) : (0 : Rat) < sr := zero_lt_one.trans_le (one_le_rate h)

/-- Every command keeps the invariants (R46). -/
theorem Executes.keeps_inv {i : Instr} {s t : State} (hx : Executes i s t) (h : Inv s) : Inv t := by
  cases hx with
  | gen n s hsr => exact h.generate _ (rate_pos hsr) n
  | setfreq q s => exact { h with freq_range := ⟨clamp_ge (by norm_num [fMin, fMax]), clamp_le _ _ _⟩ }
  | setduty q s => exact { h with duty_range := ⟨clamp_ge zero_le_one, clamp_le _ _ _⟩ }
  | setphase q s => exact h.setPhase_frac _
  | pulse q s => exact h.onPulse (q32_16_nonneg q)
  | gate s _ | mstep s => exact h.advance _
  | _ => exact { h with }

/-- Settles O13: the arrival of a word touches no register the invariants speak of, and every command keeps them. -/
theorem stepKeepsInvariants : Obligations.StepKeepsInvariants := fun _ _ hs h =>
  step_keeps (P := Inv) (fun _ _ hs => { hs with }) (fun _ _ _ hx => hx.keeps_inv) hs h

/-- Settles O14: the table of R47 is a legal `ResetCfg`, and the defaults of R5 lie in their ranges. -/
theorem resetMeetsInvariants : Obligations.ResetMeetsInvariants :=
  inv_resetWith (c := resetTable) (p := defaultParams)
    (by norm_num [ResetCfg.Legal, resetTable, fMin, fMax]) (by norm_num [Params.InRange, defaultParams])

/-- Settles O16, value by value. -/
theorem resetRegisterValues : Obligations.ResetRegisterValues := by
  refine ⟨rfl, rfl, rfl, rfl, rfl, rfl, rfl, rfl, rfl, rfl, rfl, rfl, ?skipMask, rfl, rfl, rfl, rfl, rfl, rfl, rfl, rfl, rfl⟩
  case skipMask => decide

/-! ### The clock-loss timer's bound -/

/-- One sample of at most one second takes the timer at most one second past the window (R31). -/
theorem ageBound_sample (draw : Nat → Fin nSteps) {sr : Rat} (hsr : 1 ≤ sr) {s : State} (h : Inv s)
    (hb : AgeBound s) : AgeBound (sample draw sr s) := by
  have second : 1 / sr ≤ 1 := (div_le_one (by linarith)).mpr hsr
  rw [AgeBound, sample_pulseAge]
  obtain ⟨-, e⟩ | ⟨hv, -, e⟩ | ⟨hv, -, e⟩ := clockLossTimer_cases sr s <;> rw [e]
  · exact hb
  all_goals
    obtain ⟨-, -, within⟩ := h.valid_locked hv
    exact add_le_add within second

/-- Only GEN ages the timer, and a pulse clears it (R31). -/
theorem Executes.keeps_ageBound {i : Instr} {s t : State} (hx : Executes i s t) (h : Inv s) (hb : AgeBound s) :
    AgeBound t := by
  cases hx with
  | gen n s hsr =>
    have hslow := one_le_rate hsr
    exact (generate_keeps (P := fun u => Inv u ∧ AgeBound u) _ _
      (fun u hu => ⟨hu.1.sample _ (rate_pos hsr), ageBound_sample _ hslow hu.1 hu.2⟩) n s ⟨h, hb⟩).2
  | pulse q s =>
    have window : (0 : Rat) ≤ tLoss + 1 := by norm_num [tLoss]
    obtain ⟨-, e⟩ | ⟨t0, -, ⟨-, e⟩ | ⟨-, e⟩ | ⟨-, -, e⟩⟩ := onPulse_cases (q32_16 q) s <;> rw [e]
    case inr.inl => exact hb
    all_goals exact window
  | gate s _ | mstep s => rw [AgeBound, advance_pulseAge]; exact hb
  | _ => exact hb

/-- Settles O17: the bound is kept together with the invariants, which hold a valid clock within the window. -/
theorem stepKeepsTimerBound : Obligations.StepKeepsTimerBound := by
  refine ⟨by norm_num [AgeBound, State.reset, State.resetWith, resetTable, tLoss], fun s t hs hb h => ?_⟩
  exact (step_keeps (P := fun u => Inv u ∧ AgeBound u) (fun _ _ hu => ⟨{ hu.1 with }, hu.2⟩)
    (fun _ _ _ hx hu => ⟨hx.keeps_inv hu.1, hx.keeps_ageBound hu.1 hu.2⟩) ⟨hs, hb⟩ h).2

/-! ### The sample stream -/

/-- One SAMPLE appends one sample, which `prevSample` then holds (R37, R41). -/
theorem sample_emits (draw : Nat → Fin nSteps) (sr : Rat) (s : State) :
    ∃ v, (sample draw sr s).sampleOut = s.sampleOut ++ [v] ∧ (sample draw sr s).prevSample = some v := by
  have emitted : ∃ v, (sampleEmitted sr s).sampleOut = s.sampleOut ++ [v] ∧ (sampleEmitted sr s).prevSample = some v := by
    unfold sampleEmitted
    dsimp only
    rw [clockLossTimer_frame]
    exact ⟨_, rfl, rfl⟩
  obtain e | ⟨-, e⟩ := sample_cases draw sr s <;> rw [e]
  · exact emitted
  · simpa only [advance_sampleOut, advance_prevSample] using emitted

theorem sample_streamTracked (draw : Nat → Fin nSteps) (sr : Rat) (s : State) : StreamTracked (sample draw sr s) := by
  obtain ⟨v, hout, hprev⟩ := sample_emits draw sr s
  rw [StreamTracked, hout, hprev, List.getLast?_concat]

/-- Every command but GEN leaves the stream and `prevSample` alone. -/
theorem Executes.keeps_streamTracked {i : Instr} {s t : State} (hx : Executes i s t) (h : StreamTracked s) :
    StreamTracked t := by
  cases hx with
  | gen n s hsr => exact generate_keeps _ _ (fun u _ => sample_streamTracked _ _ u) n s h
  | pulse q s => rw [onPulse_frame]; exact h
  | gate s _ | mstep s => rw [advance_frame]; exact h
  | _ => exact h

/-- Settles O18: the stream is empty at reset, and a step keeps the last sample in `prevSample`. -/
theorem stepTracksLatestSample : Obligations.StepTracksLatestSample :=
  ⟨rfl, fun _ _ hs h => step_keeps (P := StreamTracked) (fun _ _ hs => hs) (fun _ _ _ hx => hx.keeps_streamTracked) hs h⟩

/-- A buffer of `n` samples appends `n` values to the stream (R83). -/
theorem generate_appends (draw : Nat → Fin nSteps) (sr : Rat) (n : Nat) (s : State) :
    ∃ l, (generate draw sr n s).sampleOut = s.sampleOut ++ l ∧ l.length = n := by
  induction n generalizing s with
  | zero => exact ⟨[], by simp, rfl⟩
  | succ n ih =>
    obtain ⟨v, hv, -⟩ := sample_emits draw sr s
    obtain ⟨l, hl, hlen⟩ := ih (sample draw sr s)
    exact ⟨v :: l, by simp [hl, hv], by simp [hlen]⟩

/-- Settles O30: the ranges are those of the invariants, which the buffer keeps. -/
theorem genEmitsItsSamples : Obligations.GenEmitsItsSamples := by
  intro sr n s h hsr
  obtain ⟨l, hout, hlen⟩ := generate_appends Config.draw sr n s
  have after := h.generate Config.draw (rate_pos hsr) n
  refine ⟨_, l, exec_eq_next_iff.mpr (.gen n s hsr), hout, hlen, fun v hv => after.samples_range v ?_, after.phase_range⟩
  rw [hout]
  exact List.mem_append_right _ hv

/-! ### GEN's frame -/

/-- In ExternalGate mode a sample does not move the sequencer (R128). -/
theorem generate_external (draw : Nat → Fin nSteps) (sr : Rat) (n : Nat) {s : State} (h : s.trigSel = .externalGate) :
    (generate draw sr n s).currentStep = s.currentStep ∧
    (generate draw sr n s).directionPhase = s.directionPhase ∧
    (generate draw sr n s).drawCount = s.drawCount := by
  induction n generalizing s with
  | zero => exact ⟨rfl, rfl, rfl⟩
  | succ n ih =>
    obtain e | ⟨internal, -⟩ := sample_cases draw sr s
    · rw [generate_succ, e, sampleEmitted_frame]
      exact ih h
    · simp [h] at internal

/-- While the clock is not valid the timer stands still (R107). -/
theorem generate_invalid (draw : Nat → Fin nSteps) (sr : Rat) (n : Nat) {s : State} (h : s.valid = false) :
    (generate draw sr n s).valid = false ∧ (generate draw sr n s).pulseAge = s.pulseAge := by
  refine generate_keeps (P := fun u => u.valid = false ∧ u.pulseAge = s.pulseAge) draw sr ?_ n s ⟨h, rfl⟩
  rintro u ⟨hv, hage⟩
  simp [clockLossTimer, hv, hage]

/-- Settles O31: the frame of a buffer, with the sequencer held in ExternalGate mode and the timer while invalid. -/
theorem genFrame : Obligations.GenFrame := by
  intro sr n s
  obtain ⟨t, ht, hx⟩ := exec_executes (.gen sr n) s
  refine ⟨t, ht, ?_⟩
  cases hx with
  | genIgnored => simp
  | gen _ _ _ =>
    have external := generate_external Config.draw sr n (s := s)
    have invalid := generate_invalid Config.draw sr n (s := s)
    rw [generate_frame] at external invalid ⊢
    exact ⟨rfl, rfl, rfl, rfl, rfl, rfl, rfl, rfl, rfl, rfl, rfl, rfl, rfl, external, invalid⟩

/-! ### Moves of the sequencer -/

/-- The sequencer stands where it stood, at `c`, or on an active step. -/
def HeldOrActive (c : Fin nSteps) (s : State) : Prop :=
  s.currentStep = c ∨ s.skipMask[s.currentStep] = false

theorem heldOrActive_advance (draw : Nat → Fin nSteps) {c : Fin nSteps} {s : State} (h : HeldOrActive c s) :
    HeldOrActive c (advance draw s) := by
  obtain ⟨n, -, e⟩ | ⟨c', ph, n, -, active, e⟩ := advance_cases draw s <;> rw [e]
  · exact h
  · exact .inr active

theorem heldOrActive_sample (draw : Nat → Fin nSteps) (sr : Rat) {c : Fin nSteps} {s : State} (h : HeldOrActive c s) :
    HeldOrActive c (sample draw sr s) := by
  have emitted : HeldOrActive c (sampleEmitted sr s) := by rw [sampleEmitted_frame]; exact h
  obtain e | ⟨-, e⟩ := sample_cases draw sr s <;> rw [e]
  · exact emitted
  · exact heldOrActive_advance draw emitted

/-- A command that moves the sequencer does so by advances (R32). -/
theorem Executes.heldOrActive {i : Instr} {s t : State} (hx : Executes i s t) : HeldOrActive s.currentStep t := by
  cases hx with
  | gen n s _ => exact generate_keeps _ _ (fun _ hu => heldOrActive_sample _ _ hu) n s (Or.inl rfl : HeldOrActive s.currentStep s)
  | pulse q s => rw [onPulse_frame]; exact .inl rfl
  | gate s _ | mstep s => exact heldOrActive_advance _ (.inl rfl)
  | _ => exact .inl rfl

/-- Settles O51: only advances move the sequencer, and an advance that commits does so at an active step. -/
theorem movesEndOnActiveSteps : Obligations.MovesEndOnActiveSteps := fun _ _ _ h moved =>
  (exec_eq_next_iff.mp h).heldOrActive.resolve_left moved

/-! ### The register `range` -/

section
variable (draw : Nat → Fin nSteps) (sr : Rat) (s : State) (r : FreqRange)

theorem advance_setRange : advance draw (s.setRange r) = (advance draw s).setRange r := by
  simp only [advance, State.setRange_skipMask, State.setRange_sequenceKind, State.setRange_drawCount,
    State.setRange_currentStep, State.setRange_directionPhase]
  split <;> rfl

theorem clockLossTimer_setRange : clockLossTimer sr (s.setRange r) = (clockLossTimer sr s).setRange r := by
  simp only [clockLossTimer, apply_ite (State.setRange · r)]
  rfl

/-- The edge test reads no `range`, and both of its branches carry it along. -/
theorem sample_setRange : sample draw sr (s.setRange r) = (sample draw sr s).setRange r := by
  simp only [sample, clockLossTimer_setRange, apply_ite (State.setRange · r), ← advance_setRange]
  rfl

theorem generate_setRange (n : Nat) : generate draw sr n (s.setRange r) = (generate draw sr n s).setRange r := by
  induction n generalizing s with
  | zero => rfl
  | succ n ih => rw [generate_succ, sample_setRange, ih, generate_succ]

theorem onPulse_setRange (t : Rat) : onPulse t (s.setRange r) = (onPulse t s).setRange r := by
  simp only [onPulse, State.setRange_lastPulseTimestamp]
  repeat' split
  all_goals rfl

end

/-- A command executed from another `range` reaches the same state but for `range`: what it stores there (SETRANGE)
or what stood there. -/
theorem Executes.setRange {i : Instr} {s t : State} (hx : Executes i s t) (r : FreqRange) :
    ∃ r', Executes i (s.setRange r) (t.setRange r') := by
  cases hx with
  | setrange sel s => exact ⟨_, .setrange sel (s.setRange r)⟩
  | gen n s h => exact ⟨r, generate_setRange _ _ s r n ▸ .gen n _ h⟩
  | pulse q s => exact ⟨r, onPulse_setRange s r _ ▸ .pulse q _⟩
  | gate s h => exact ⟨r, advance_setRange _ s r ▸ .gate _ h⟩
  | mstep s => exact ⟨r, advance_setRange _ s r ▸ .mstep _⟩
  | genIgnored n s => exact ⟨r, .genIgnored n _⟩
  | setfreq q s => exact ⟨r, .setfreq q (s.setRange r)⟩
  | setduty q s => exact ⟨r, .setduty q (s.setRange r)⟩
  | setshape sel s => exact ⟨r, .setshape sel (s.setRange r)⟩
  | setphase q s => exact ⟨r, .setphase q (s.setRange r)⟩
  | setratio k s => exact ⟨r, .setratio k (s.setRange r)⟩
  | setxclk sel s => exact ⟨r, .setxclk sel (s.setRange r)⟩
  | gateIgnored s h => exact ⟨r, .gateIgnored _ h⟩
  | setskip flag s h => exact ⟨r, .setskip flag (s.setRange r) h⟩
  | setskipRejected flag s h => exact ⟨r, .setskipRejected flag _ h⟩
  | setseq s named other => exact ⟨r, .setseq (s.setRange r) named other⟩
  | setseqSame s named => exact ⟨r, .setseqSame (s.setRange r) named⟩
  | setseqRejected s unnamed => exact ⟨r, .setseqRejected _ unnamed⟩
  | settrig sel s => exact ⟨r, .settrig sel (s.setRange r)⟩

/-- Settles O20, command by command along the run. -/
theorem rangeIsReadByNothing : Obligations.RangeIsReadByNothing := by
  intro is
  induction is with
  | nil => rintro s t r ⟨⟩; exact ⟨r, rfl⟩
  | cons i is ih =>
    intro s t r h
    obtain ⟨u, hu, hx⟩ := exec_executes i s
    obtain ⟨ru, hru⟩ := hx.setRange r
    obtain ⟨r', hr'⟩ := ih u t ru (run_cons hu is ▸ h)
    exact ⟨r', (run_cons (exec_eq_next_iff.mpr hru) is).trans hr'⟩

end Sys2Proof.Machine

namespace Sys2Proof

/-! ### The word of a command, field by field -/

section
variable {i : Instr} (h : i.WellFormed)
include h

theorem Instr.WellFormed.toNat_encode :
    (encode i).toNat = i.opcode.byte * 2 ^ 56 + i.idxField * 2 ^ 48 + i.immField := by
  cases i with
  | gen sr n => exact Laws.Fields.gen sr n h
  | setfreq q => exact Laws.Fields.setfreq q h
  | setduty q => exact Laws.Fields.setduty q h
  | setshape sel => exact Laws.Fields.setshape sel h
  | setphase q => exact Laws.Fields.setphase q h
  | setrange sel => exact Laws.Fields.setrange sel h
  | pulse q => exact Laws.Fields.pulse q h
  | setratio k => exact Laws.Fields.setratio k h
  | setxclk sel => exact Laws.Fields.setxclk sel h
  | gate => exact Laws.Fields.gate h
  | mstep => exact Laws.Fields.mstep h
  | setskip k flag => exact Laws.Fields.setskip k flag h
  | setseq k => exact Laws.Fields.setseq k h
  | settrig sel => exact Laws.Fields.settrig sel h

theorem Instr.WellFormed.idxField_lt : i.idxField < 2 ^ 8 := by
  cases i with
  | setshape sel | setrange sel | setxclk sel | settrig sel => exact Laws.Fields.bool_lt sel
  | setratio k | setseq k | setskip k flag => exact of_decide_eq_true h
  | _ => exact Nat.two_pow_pos 8

theorem Instr.WellFormed.immField_lt : i.immField < 2 ^ 48 := by
  cases i with
  | gen sr n =>
    simp only [Instr.WellFormed, Instr.fits, Bool.and_eq_true, decide_eq_true_eq] at h
    simp only [Instr.immField]
    omega
  | setfreq q | setduty q | setphase q | pulse q => exact of_decide_eq_true h
  | setskip k flag => exact Laws.Fields.bool_lt_imm flag
  | _ => exact Nat.two_pow_pos 48

/-- The opcode byte stands in `W[63:56]` (R60). -/
theorem Instr.WellFormed.bits_opcode : bits (encode i) 63 56 = i.opcode.byte := by
  have hidx := h.idxField_lt
  have himm := h.immField_lt
  have hop := Laws.Fields.byte_lt i.opcode
  rw [bits, h.toNat_encode]
  omega

/-- No must-be-zero bit of a command's word is set (R61). -/
theorem Instr.WellFormed.mustBeZeroClear_encode : mustBeZeroClear i.opcode.format (encode i) = true := by
  have hidx := h.idxField_lt
  have himm := h.immField_lt
  have hw := h.toNat_encode
  cases i with
  | gate | mstep => decide
  | setshape sel | setrange sel | setxclk sel | settrig sel => cases sel <;> decide
  | gen | setfreq | setduty | setphase | pulse | setratio | setseq =>
    simp only [Instr.opcode, Opcode.byte, Instr.idxField, Instr.immField] at hidx himm hw
    simp only [mustBeZeroClear, Instr.opcode, Opcode.format, bits, beq_iff_eq]
    omega
  | setskip k flag =>
    have hflag := Bool.toNat_lt flag
    simp only [Instr.opcode, Opcode.byte, Instr.idxField, Instr.immField] at hidx hw
    simp only [mustBeZeroClear, Instr.opcode, Opcode.format, bits, beq_iff_eq]
    omega

/-- Every operand is read back whole from its field (R61, R63). -/
theorem Instr.WellFormed.extract_encode : extract i.opcode (encode i) = i := by
  have hidx := h.idxField_lt
  have himm := h.immField_lt
  have hw := h.toNat_encode
  cases i with
  | gate | mstep => rfl
  | setshape sel | setrange sel | setxclk sel | settrig sel => cases sel <;> decide
  | gen sr n =>
    simp only [Instr.WellFormed, Instr.fits, Bool.and_eq_true, decide_eq_true_eq] at h
    simp only [Instr.opcode, Opcode.byte, Instr.idxField, Instr.immField] at hw
    simp only [extract, Instr.opcode, bits, Instr.gen.injEq]
    omega
  | setfreq q | setduty q | setphase q | pulse q =>
    simp only [Instr.opcode, Opcode.byte, Instr.idxField, Instr.immField] at himm hw
    simp only [extract, Instr.opcode, bits, Instr.setfreq.injEq, Instr.setduty.injEq, Instr.setphase.injEq,
      Instr.pulse.injEq]
    omega
  | setratio k | setseq k =>
    simp only [Instr.opcode, Opcode.byte, Instr.idxField, Instr.immField] at hidx hw
    simp only [extract, Instr.opcode, bits, Instr.setratio.injEq, Instr.setseq.injEq]
    omega
  | setskip k flag =>
    simp only [Instr.opcode, Opcode.byte, Instr.idxField, Instr.immField] at hidx hw
    simp only [extract, Instr.opcode, bit, bits, Instr.setskip.injEq]
    refine ⟨by have hflag := Bool.toNat_lt flag; omega, ?_⟩
    cases flag <;> simp at hw ⊢ <;> omega

/-- The decoder gives back every command the encoding can express. -/
theorem Instr.WellFormed.decode_encode : decode (encode i) = .command i := by
  rw [decode, opcodeOf_eq_some.mpr h.bits_opcode]
  simp only [h.mustBeZeroClear_encode, h.extract_encode, if_true]

end

end Sys2Proof

namespace Sys2Proof.Machine

/-! ### One step -/

/-- A step takes the next legal word off the port and executes its command (R52). -/
theorem step_of_command {s : State} {w : Word} {rest : List Word} {i : Instr} (hport : s.port = w :: rest)
    (hdec : decode w = .command i) : step s = exec i (s.setPort rest) := by
  simp only [step, arrive, hport, hdec]

theorem step_of_empty {s : State} (hport : s.port = []) : step s = .next s := by
  simp only [step, arrive, hport]

/-- Settles O9, with the word taken off by `setPort`. -/
theorem stepRunsTheArrivingCommand : Obligations.StepRunsTheArrivingCommand :=
  ⟨fun _ _ _ _ => step_of_command, fun _ => step_of_empty⟩

/-! ### Commands and the port -/

section
variable (draw : Nat → Fin nSteps) (sr : Rat) (s : State) (ws : List Word)

theorem advance_setPort : advance draw (s.setPort ws) = (advance draw s).setPort ws := by
  simp only [advance, State.setPort_skipMask, State.setPort_sequenceKind, State.setPort_drawCount,
    State.setPort_currentStep, State.setPort_directionPhase]
  split <;> rfl

theorem clockLossTimer_setPort : clockLossTimer sr (s.setPort ws) = (clockLossTimer sr s).setPort ws := by
  simp only [clockLossTimer, apply_ite (State.setPort · ws)]
  rfl

theorem sample_setPort : sample draw sr (s.setPort ws) = (sample draw sr s).setPort ws := by
  simp only [sample, clockLossTimer_setPort, apply_ite (State.setPort · ws), ← advance_setPort]
  rfl

theorem generate_setPort (n : Nat) : generate draw sr n (s.setPort ws) = (generate draw sr n s).setPort ws := by
  induction n generalizing s with
  | zero => rfl
  | succ n ih => rw [generate_succ, sample_setPort, ih, generate_succ]

theorem onPulse_setPort (t : Rat) : onPulse t (s.setPort ws) = (onPulse t s).setPort ws := by
  simp only [onPulse, State.setPort_lastPulseTimestamp]
  repeat' split
  all_goals rfl

end

/-- No command reads or writes the port: with other words waiting it reaches the same state but for them. -/
theorem Executes.setPort {i : Instr} {s t : State} (hx : Executes i s t) (ws : List Word) :
    Executes i (s.setPort ws) (t.setPort ws) := by
  cases hx with
  | gen n s h => exact generate_setPort _ _ s ws n ▸ .gen n _ h
  | pulse q s => exact onPulse_setPort s ws _ ▸ .pulse q _
  | gate s h => exact advance_setPort _ s ws ▸ .gate _ h
  | mstep s => exact advance_setPort _ s ws ▸ .mstep _
  | setseqRejected s unnamed => exact .setseqRejected _ unnamed
  | _ => constructor <;> assumption

theorem exec_setPort {i : Instr} {s t : State} (h : exec i s = .next t) (ws : List Word) :
    exec i (s.setPort ws) = .next (t.setPort ws) :=
  exec_eq_next_iff.mpr ((exec_eq_next_iff.mp h).setPort ws)

/-- A command leaves the port as it found it. -/
theorem Executes.port_eq {i : Instr} {s t : State} (hx : Executes i s t) : t.port = s.port := by
  have same : exec i s = .next (t.setPort s.port) := exec_eq_next_iff.mpr (hx.setPort s.port)
  rw [exec_eq_next_iff.mpr hx] at same
  simpa using congrArg State.port (Host.Outcome.next.inj same)

/-! ### Runs over the port -/

/-- A run of commands completes, and leaves the port as it found it (R186). -/
theorem run_completes (is : List Instr) (s : State) : ∃ t, run is s = .next t ∧ t.port = s.port := by
  induction is generalizing s with
  | nil => exact ⟨s, rfl, rfl⟩
  | cons i is ih =>
    obtain ⟨u, hu, hx⟩ := exec_executes i s
    obtain ⟨t, ht, hport⟩ := ih u
    exact ⟨t, (run_cons hu is).trans ht, hport.trans hx.port_eq⟩

/-- The machine's run goes on from the state its first step reaches. -/
theorem core_run_succ {s t : State} (h : step s = .next t) (n : Nat) :
    Sys2Proof.core.run (n + 1) s = Sys2Proof.core.run n t := by
  have hcore : Sys2Proof.core.step s = .next t := h
  simp only [Host.Core.run, hcore]

/-- The words decode, one by one, to the commands of the list. -/
def DecodeTo : List Word → List Instr → Prop := List.Forall₂ fun w i => decode w = .command i

/-- The encodings of well-formed commands decode to them. -/
theorem decodeTo_map_encode {is : List Instr} (h : ∀ i ∈ is, i.WellFormed) : DecodeTo (is.map encode) is :=
  List.forall₂_map_left_iff.mpr (List.forall₂_same.mpr fun i hi => (h i hi).decode_encode)

/-- Legal words decode to some list of commands. -/
theorem exists_decodeTo {ws : List Word} (h : ∀ w ∈ ws, LegalWord w) : ∃ is, DecodeTo ws is := by
  induction ws with
  | nil => exact ⟨[], .nil⟩
  | cons w ws ih =>
    obtain ⟨⟨i, hi⟩, hws⟩ := List.forall_mem_cons.mp h
    obtain ⟨is, his⟩ := ih hws
    exact ⟨i :: is, .cons hi his⟩

/-- Stepping over words that decode to `is` executes `is` in order. -/
theorem core_run_eq_run {ws : List Word} {is : List Instr} (h : DecodeTo ws is) (s : State) :
    Sys2Proof.core.run ws.length (s.setPort ws) = run is (s.setPort []) := by
  induction h generalizing s with
  | nil => rfl
  | @cons w i ws is hw _ ih =>
    obtain ⟨t, ht, -⟩ := exec_executes i s
    have first : step (s.setPort (w :: ws)) = .next (t.setPort ws) :=
      (step_of_command rfl hw).trans (exec_setPort ht ws)
    rw [List.length_cons, core_run_succ first, ih t, run_cons (exec_setPort ht [])]

/-- Settles O10: each encoding decodes to its command. -/
theorem commandSequenceRunsInOrder : Obligations.CommandSequenceRunsInOrder := by
  intro is s hwf
  have hrun := core_run_eq_run (decodeTo_map_encode hwf) s
  rwa [List.length_map] at hrun

/-- A merge holds only words of the hosts' sequences (R53). -/
theorem Merged.mem_of_mem {qs : List (List Word)} {ws : List Word} (h : Merged qs ws) :
    ∀ w ∈ ws, ∃ q ∈ qs, w ∈ q := by
  induction h with
  | done qs _ => nofun
  | take before after v rest ws _ ih =>
    intro w hw
    obtain rfl | hw := List.mem_cons.mp hw
    · exact ⟨w :: rest, by simp, by simp⟩
    · obtain ⟨q, hq, hwq⟩ := ih w hw
      obtain hb | rfl | ha : q ∈ before ∨ q = rest ∨ q ∈ after := by simpa using hq
      · exact ⟨q, by simp [hb], hwq⟩
      · exact ⟨v :: q, by simp, by simp [hwq]⟩
      · exact ⟨q, by simp [ha], hwq⟩

/-- Settles O11: the words of a merge are the hosts', so the steps over them are a run of commands. -/
theorem mergedHostSequencesComplete : Obligations.MergedHostSequencesComplete := by
  intro qs s hmerged hlegal
  have legal : ∀ w ∈ s.port, LegalWord w := fun w hw =>
    have ⟨q, hq, hwq⟩ := hmerged.mem_of_mem w hw
    hlegal q hq w hwq
  obtain ⟨is, his⟩ := exists_decodeTo legal
  obtain ⟨t, ht, hport⟩ := run_completes is (s.setPort [])
  exact ⟨t, (core_run_eq_run his s).trans ht, hport⟩

/-! ### SET commands -/

/-- A SET command executed where it has just completed changes nothing more (R54). -/
theorem Executes.again {i : Instr} {s t : State} (hx : Executes i s t) (hset : isSetCommand i = true) :
    Executes i t t := by
  cases hx with
  | setfreq q s => exact .setfreq q (s.setFreeRunHz _)
  | setduty q s => exact .setduty q (s.setDutyCycle _)
  | setshape sel s => exact .setshape sel (s.setShape _)
  | setphase q s => exact .setphase q (s.setPhase _)
  | setrange sel s => exact .setrange sel (s.setRange _)
  | setratio k s => exact .setratio k (s.setRatioIndex _)
  | setxclk sel s => exact .setxclk sel (s.setExtClockEn _)
  | settrig sel s => exact .settrig sel (s.setTrigSel _)
  | setskip flag s h =>
    have twice : (s.skipMask.set _ flag h).set _ flag h = s.skipMask.set _ flag h := Vector.set_set ..
    have hx := Executes.setskip flag (s.setSkipMask (s.skipMask.set _ flag h)) h
    rwa [State.setSkipMask_skipMask, twice] at hx
  | setskipRejected flag s h => exact .setskipRejected flag s h
  | setseq s named other => exact .setseqSame (s.changeKind _) named
  | setseqSame s named => exact .setseqSame s named
  | setseqRejected s unnamed => exact .setseqRejected s unnamed
  | gen | genIgnored | pulse | gate | gateIgnored | mstep => cases hset

/-- Settles O56: the first execution reaches a state in which the second holds. -/
theorem setCommandsAreIdempotent : Obligations.SetCommandsAreIdempotent := by
  intro i s hset
  obtain ⟨t, ht, hx⟩ := exec_executes i s
  have second : exec i t = .next t := exec_eq_next_iff.mpr (hx.again hset)
  exact ⟨t, by rw [run_cons ht, run_cons second, run_nil], by rw [run_cons ht, run_nil]⟩

end Sys2Proof.Machine

namespace Sys2Proof

/-! ### What the decoder answers -/

theorem opcode_extract (o : Opcode) (w : Word) : (extract o w).opcode = o := by cases o <;> rfl

theorem decode_of_unassigned {w : Word} (h : ∀ o : Opcode, bits w 63 56 ≠ o.byte) :
    decode w = .reserved (.unassignedOpcode (bits w 63 56)) := by
  rw [decode, opcodeOf_eq_none.mpr h]

/-- With an assigned opcode the must-be-zero bits decide (R65 steps 3 and 4). -/
theorem decode_of_opcode {w : Word} {o : Opcode} (hop : bits w 63 56 = o.byte) :
    decode w = if mustBeZeroClear o.format w then .command (extract o w) else .reserved (.mustBeZero o.byte) := by
  rw [decode, opcodeOf_eq_some.mpr hop]
  simp only [hop]

theorem decode_of_mustBeZero {w : Word} {o : Opcode} (hop : bits w 63 56 = o.byte)
    (hmbz : mustBeZeroClear o.format w = false) : decode w = .reserved (.mustBeZero o.byte) := by
  rw [decode_of_opcode hop, hmbz, if_neg Bool.false_ne_true]

theorem decode_of_clear {w : Word} {o : Opcode} (hop : bits w 63 56 = o.byte)
    (hmbz : mustBeZeroClear o.format w = true) : decode w = .command (extract o w) := by
  rw [decode_of_opcode hop, if_pos hmbz]

/-- The decoder answers a command exactly when the word holds its row's opcode, no must-be-zero bit, and its operands
(R65). -/
theorem decode_eq_command_iff {w : Word} {i : Instr} : decode w = .command i ↔
    bits w 63 56 = i.opcode.byte ∧ mustBeZeroClear i.opcode.format w = true ∧ extract i.opcode w = i := by
  constructor
  · intro h
    obtain ⟨-, hdec⟩ | ⟨o, hop, ⟨-, hdec⟩ | ⟨hmbz, hdec⟩⟩ := decode_cases w <;> rw [hdec] at h <;> cases h
    rw [opcode_extract]
    exact ⟨hop, hmbz, rfl⟩
  · rintro ⟨hop, hmbz, hext⟩
    rw [decode_of_clear hop hmbz, hext]

/-- An operand taken from a field fits it (R63). -/
theorem wellFormed_extract (o : Opcode) (w : Word) : (extract o w).WellFormed := by
  cases o with
  | gen => exact Bool.and_eq_true_iff.mpr ⟨decide_eq_true (bits_lt w 47 16), decide_eq_true (bits_lt w 15 0)⟩
  | setfreq | setduty | setphase | pulse => exact decide_eq_true (bits_lt w 47 0)
  | setratio | setseq | setskip => exact decide_eq_true (bits_lt w 55 48)
  | setshape | setrange | setxclk | settrig | gate | mstep => rfl

theorem wellFormed_of_decode {w : Word} {i : Instr} (h : decode w = .command i) : i.WellFormed := by
  obtain ⟨-, -, hext⟩ := decode_eq_command_iff.mp h
  exact hext ▸ wellFormed_extract i.opcode w

/-- Settles O1: the row, the clear bits and every operand are read back from the word's fields. -/
theorem decodeInvertsEncode : Obligations.DecodeInvertsEncode := fun _ => Instr.WellFormed.decode_encode

/-- Settles O3: they are what `extract` takes from the fields. -/
theorem decodedCommandsFitTheirFields : Obligations.DecodedCommandsFitTheirFields := fun _ _ => wellFormed_of_decode

/-! ### The fields of a word -/

/-- A word is its three fields (R60). -/
theorem toNat_eq_fields (w : Word) : w.toNat = bits w 63 56 * 2 ^ 56 + bits w 55 48 * 2 ^ 48 + bits w 47 0 := by
  simp only [bits]
  omega

/-- How many low bits of the field `idx` carry operands; the others must be zero (R61). -/
def Format.idxWidth : Format → Nat
  | .formatN | .formatQ | .formatG => 0
  | .formatS => 1
  | .formatI | .formatX => 8

/-- How many low bits of the field `imm` carry operands; the others must be zero (R61). -/
def Format.immWidth : Format → Nat
  | .formatN | .formatS | .formatI => 0
  | .formatX => 1
  | .formatQ | .formatG => 48

/-- The must-be-zero bits are those of `idx` and of `imm` above the operands. -/
theorem mustBeZeroClear_iff {f : Format} {w : Word} :
    mustBeZeroClear f w = true ↔ bits w 55 48 < 2 ^ f.idxWidth ∧ bits w 47 0 < 2 ^ f.immWidth := by
  cases f <;> simp only [mustBeZeroClear, Format.idxWidth, Format.immWidth, bits, Bool.and_eq_true, beq_iff_eq] <;>
    omega

/-- A one-bit operand is the whole of its field when the bits above it are zero. -/
theorem toNat_bit_of_lt {w : Word} {hi lo : Nat} (hle : lo ≤ hi) (h : bits w hi lo < 2) :
    (bit w lo).toNat = bits w hi lo := by
  have low : bits w lo lo = bits w hi lo % 2 := by
    rw [bits, bits, Nat.mod_mod_of_dvd _ (dvd_pow_self 2 (by omega)), Nat.add_sub_cancel_left, pow_one]
  rw [Nat.mod_eq_of_lt h] at low
  rw [bit, low]
  interval_cases bits w hi lo <;> rfl

/-- The operands of a row with a clear word fill its `idx` field. -/
theorem idxField_extract {o : Opcode} {w : Word} (h : mustBeZeroClear o.format w = true) :
    (extract o w).idxField = bits w 55 48 := by
  obtain ⟨hidx, -⟩ := mustBeZeroClear_iff.mp h
  cases o with
  | setshape | setrange | setxclk | settrig => exact toNat_bit_of_lt (by decide) hidx
  | setratio | setseq | setskip => rfl
  | gen | setfreq | setduty | setphase | pulse | gate | mstep => exact (Nat.lt_one_iff.mp hidx).symm

/-- The operands of a row with a clear word fill its `imm` field. -/
theorem immField_extract {o : Opcode} {w : Word} (h : mustBeZeroClear o.format w = true) :
    (extract o w).immField = bits w 47 0 := by
  obtain ⟨-, himm⟩ := mustBeZeroClear_iff.mp h
  cases o with
  | gen =>
    simp only [extract, Instr.immField, bits]
    omega
  | setfreq | setduty | setphase | pulse => rfl
  | setskip => exact toNat_bit_of_lt (by decide) himm
  | setshape | setrange | setxclk | settrig | setratio | setseq | gate | mstep => exact (Nat.lt_one_iff.mp himm).symm

/-- A word and the encoding of its command agree in each of the three fields. -/
theorem encode_of_decode {w : Word} {i : Instr} (h : decode w = .command i) : encode i = w := by
  have hwf := wellFormed_of_decode h
  obtain ⟨hop, hmbz, hext⟩ := decode_eq_command_iff.mp h
  have hidx := idxField_extract hmbz
  have himm := immField_extract hmbz
  rw [hext] at hidx himm
  apply BitVec.eq_of_toNat_eq
  rw [hwf.toNat_encode, toNat_eq_fields w, hop, hidx, himm]

/-- Settles O2: with the must-be-zero bits clear, the three fields hold the opcode and the operands and nothing else. -/
theorem encodeInvertsDecode : Obligations.EncodeInvertsDecode := fun _ _ => encode_of_decode

/-! ### Mask and match -/

theorem append_eq_append_iff {m n : Nat} {a c : BitVec m} {b d : BitVec n} : a ++ b = c ++ d ↔ a = c ∧ b = d := by
  constructor
  · intro h
    have left := congrArg (BitVec.extractLsb' n m) h
    have right := congrArg (BitVec.extractLsb' 0 n) h
    rw [BitVec.extractLsb'_append_eq_left, BitVec.extractLsb'_append_eq_left] at left
    rw [BitVec.extractLsb'_append_eq_right, BitVec.extractLsb'_append_eq_right] at right
    exact ⟨left, right⟩
  · rintro ⟨rfl, rfl⟩
    rfl

/-- A mask over the bits from `k` up finds none of them set exactly in the numbers below `2 ^ k`. -/
theorem and_allOnes_shiftLeft_eq_zero_iff {n : Nat} (x : BitVec n) (k : Nat) :
    x &&& BitVec.allOnes n <<< k = 0#n ↔ x.toNat < 2 ^ k := by
  have noOverflow : x.toNat / 2 ^ k * 2 ^ k < 2 ^ n := (Nat.div_mul_le_self _ _).trans_lt x.isLt
  rw [← BitVec.shiftLeft_ushiftRight, ← BitVec.toNat_inj, BitVec.toNat_shiftLeft, BitVec.toNat_ushiftRight,
    Nat.shiftLeft_eq, Nat.shiftRight_eq_div_pow, Nat.mod_eq_of_lt noOverflow]
  simp [Nat.div_eq_zero_iff]

/-- `W[hi:lo]` is the number of the bit vector cut out of the word there (R9). -/
theorem toNat_extractLsb'_eq_bits (w : Word) (hi lo : Nat) :
    (w.extractLsb' lo (hi + 1 - lo)).toNat = bits w hi lo := by
  rw [BitVec.extractLsb'_toNat, Nat.shiftRight_eq_div_pow, bits]

theorem eq_append_fields (w : Word) : w = w.extractLsb' 56 8 ++ w.extractLsb' 48 8 ++ w.extractLsb' 0 48 := by
  have upper : w.extractLsb' 56 8 ++ w.extractLsb' 48 8 = w.extractLsb' 48 16 :=
    BitVec.extractLsb'_append_extractLsb'_eq_extractLsb' rfl
  have whole : w.extractLsb' 48 16 ++ w.extractLsb' 0 48 = w := BitVec.extractLsb'_append_extractLsb' (w := 16)
  rw [upper, whole]

theorem matchBits_eq_append (o : Opcode) : o.matchBits = BitVec.ofNat 8 o.byte ++ 0#8 ++ 0#48 := by cases o <;> rfl

/-- A row's mask is the opcode byte and the must-be-zero bits of its format (R62). -/
theorem maskBits_eq_append (o : Opcode) : o.maskBits =
    BitVec.allOnes 8 ++ BitVec.allOnes 8 <<< o.format.idxWidth ++ BitVec.allOnes 48 <<< o.format.immWidth := by
  cases o <;> decide

/-- A row's mask and match select the words with its opcode and no must-be-zero bit set (R62). -/
theorem selects_iff {o : Opcode} {w : Word} :
    o.selects w = true ↔ bits w 63 56 = o.byte ∧ mustBeZeroClear o.format w = true := by
  have masked : w &&& o.maskBits =
      w.extractLsb' 56 8 ++ (w.extractLsb' 48 8 &&& BitVec.allOnes 8 <<< o.format.idxWidth) ++
        (w.extractLsb' 0 48 &&& BitVec.allOnes 48 <<< o.format.immWidth) := by
    conv_lhs => rw [eq_append_fields w, maskBits_eq_append]
    exact BitVec.and_append.trans (by rw [BitVec.and_append, BitVec.and_allOnes])
  have opcode : w.extractLsb' 56 8 = BitVec.ofNat 8 o.byte ↔ bits w 63 56 = o.byte := by
    rw [← BitVec.toNat_inj, toNat_extractLsb'_eq_bits w 63 56, BitVec.toNat_ofNat,
      Nat.mod_eq_of_lt (Laws.Fields.byte_lt o)]
  rw [Opcode.selects, beq_iff_eq, masked, matchBits_eq_append, append_eq_append_iff, append_eq_append_iff, opcode,
    and_allOnes_shiftLeft_eq_zero_iff, and_allOnes_shiftLeft_eq_zero_iff, toNat_extractLsb'_eq_bits w 55 48,
    toNat_extractLsb'_eq_bits w 47 0, mustBeZeroClear_iff, and_assoc]

theorem selects_of_decode {w : Word} {i : Instr} (h : decode w = .command i) : i.opcode.selects w = true := by
  obtain ⟨hop, hmbz, -⟩ := decode_eq_command_iff.mp h
  exact selects_iff.mpr ⟨hop, hmbz⟩

end Sys2Proof

namespace Sys2Proof.Machine

/-- A word is legal exactly when some row selects it (R62). -/
theorem legalWord_iff_exists_selects {w : Word} : LegalWord w ↔ ∃ o : Opcode, o.selects w = true := by
  constructor
  · rintro ⟨i, hdec⟩
    exact ⟨i.opcode, selects_of_decode hdec⟩
  · rintro ⟨o, hsel⟩
    obtain ⟨hop, hmbz⟩ := selects_iff.mp hsel
    exact ⟨extract o w, decode_of_clear hop hmbz⟩

/-- Settles O4: at most one row selects a word, for the rows differ in their opcode bytes. -/
theorem legalExactlyWhenOneRowSelects : Obligations.LegalExactlyWhenOneRowSelects := by
  intro w
  refine ⟨legalWord_iff_exists_selects, fun o p ho hp => ?_, fun _ => selects_of_decode,
    fun _ => decode_of_mustBeZero⟩
  obtain ⟨hop, -⟩ := selects_iff.mp ho
  obtain ⟨hpp, -⟩ := selects_iff.mp hp
  exact Opcode.byte_injective (hop.symm.trans hpp)

/-- A reserved word gets no step (R67). -/
theorem step_of_reserved {s : State} {w : Word} {rest : List Word} {why : Reserved} (hport : s.port = w :: rest)
    (hdec : decode w = .reserved why) : step s = .refused (.reservedEncoding why) := by
  simp only [step, arrive, hport, hdec]

/-- Settles O5: the decoder answers each reserved word with its reason. -/
theorem reservedWordsAreRefused : Obligations.ReservedWordsAreRefused := by
  refine ⟨fun s w rest hport => ⟨fun unassigned => ?_, fun o hop hmbz => ?_⟩, fun o => ?_⟩
  · exact step_of_reserved hport (decode_of_unassigned unassigned)
  · exact step_of_reserved hport (decode_of_mustBeZero hop hmbz)
  · cases o <;> decide

/-! ### Assembling -/

/-- The assembler answers only encodings of well-formed commands (R70). -/
theorem assemble_eq_some_iff {line : String} {w : Word} :
    assemble line = some w ↔ ∃ i, parseLine line = some i ∧ i.WellFormed ∧ encode i = w := by
  unfold assemble
  cases parseLine line with
  | none => simp
  | some i => simp

/-- Settles O8: the word is the encoding of a well-formed command, which decodes to it. -/
theorem assembledWordsAreLegal : Obligations.AssembledWordsAreLegal := by
  intro line w h
  obtain ⟨i, -, hwf, rfl⟩ := assemble_eq_some_iff.mp h
  exact ⟨i, hwf.decode_encode⟩

/-- Settles O6, by running the decoder on the fourteen words. -/
theorem specWordsDecode : Obligations.SpecWordsDecode := by
  unfold Obligations.SpecWordsDecode
  decide

/-- Settles O7, by running the assembler on the eight lines. -/
theorem assemblerWorkedExamples : Obligations.AssemblerWorkedExamples := by
  unfold Obligations.AssemblerWorkedExamples
  decide +kernel

end Sys2Proof.Machine

namespace Sys2Proof.Machine

/-! ### Commands that store one operand -/

/-- The clamp as the three cases the rules of SETFREQ and SETDUTY distinguish (R10). -/
theorem clamp_eq_ite (x : Rat) {lo hi : Rat} (h : lo ≤ hi) :
    clamp x lo hi = if x < lo then lo else if hi < x then hi else x := by
  split_ifs with below above
  · exact clamp_of_lt below h
  · exact clamp_of_gt above
  · exact clamp_of_mem (not_lt.mp below) (not_lt.mp above)

theorem q16_32_eq (q : Nat) : q16_32 q = (q : Rat) / 2 ^ 32 := by norm_num [q16_32]

/-- The integer part of a Q16.32 operand stands in its upper 16 bits (R87). -/
theorem frac_q16_32 (q : Nat) : frac (q16_32 q) = ((q % 2 ^ 32 : Nat) : Rat) / 2 ^ 32 := by
  have h := Int.fract_div_natCast_eq_div_natCast_mod (k := Rat) (m := q) (n := 2 ^ 32)
  rw [frac_eq_fract, q16_32_eq]
  exact_mod_cast h

/-- Settles O21: the clamp's cases at the two device bounds. -/
theorem setfreqClampsToDeviceRange : Obligations.SetfreqClampsToDeviceRange := by
  intro q s
  refine ⟨fun hq => Instr.WellFormed.decode_encode (i := .setfreq q) (decide_eq_true hq), ?_⟩
  rw [← q16_32_eq, exec_eq_next_iff.mpr (.setfreq q s), clamp_eq_ite _ (by norm_num [fMin, fMax])]
  rfl

/-- Settles O22: the lower bound never acts, since an operand is not negative. -/
theorem setdutyClampsToUnitInterval : Obligations.SetdutyClampsToUnitInterval := by
  intro q s
  refine ⟨fun hq => Instr.WellFormed.decode_encode (i := .setduty q) (decide_eq_true hq), ?_⟩
  rw [← q16_32_eq, exec_eq_next_iff.mpr (.setduty q s), clamp_eq_ite _ zero_le_one,
    if_neg (q16_32_nonneg q).not_gt]
  rfl

/-- Settles O23: the fraction of the operand is its low 32 bits. -/
theorem setphaseKeepsTheFraction : Obligations.SetphaseKeepsTheFraction := by
  intro q s
  refine ⟨fun hq => Instr.WellFormed.decode_encode (i := .setphase q) (decide_eq_true hq), ?_⟩
  rw [← frac_q16_32]
  exact exec_eq_next_iff.mpr (.setphase q s)

/-- Settles O24: the words are the encodings of the commands, and each selector names its value. -/
theorem selectorCommandsStoreTheirSelection : Obligations.SelectorCommandsStoreTheirSelection := by
  intro s
  refine ⟨by decide, by decide, ?_⟩
  exact ⟨rfl, rfl, rfl, rfl, rfl, rfl, rfl, rfl⟩

/-! ### The triangle -/

/-- Where `EPS` floors neither denominator, the triangle is the lower of its two segments (R81). -/
theorem wave_triangle_eq_min {eps d : Rat} (heps : 0 < eps) (hlo : eps ≤ d) (hhi : d ≤ 1 - eps) (p : Rat) :
    wave eps .triangle p d = min (p / d) ((1 - p) / (1 - d)) := by
  have hd : 0 < d := heps.trans_le hlo
  have hd' : 0 < 1 - d := by linarith
  simp only [wave, max_eq_left hlo, max_eq_left (show eps ≤ 1 - d by linarith)]
  split_ifs with h
  · rw [min_eq_left]
    rw [div_le_div_iff₀ hd hd']
    linarith
  · rw [min_eq_right]
    · field_simp
      ring
    · rw [div_le_div_iff₀ hd' hd]
      linarith

/-- The minimum of two segments changes no faster than the steeper one (R92). -/
theorem abs_min_segments_sub_le {d : Rat} (h0 : 0 < d) (h1 : 0 < 1 - d) (p q : Rat) :
    |min (p / d) ((1 - p) / (1 - d)) - min (q / d) ((1 - q) / (1 - d))| ≤ |p - q| * max (1 / d) (1 / (1 - d)) := by
  have rise : |p / d - q / d| = |p - q| * (1 / d) := by
    rw [← sub_div, abs_div, abs_of_pos h0, mul_one_div]
  have fall : |(1 - p) / (1 - d) - (1 - q) / (1 - d)| = |p - q| * (1 / (1 - d)) := by
    rw [← sub_div, abs_div, abs_of_pos h1, sub_sub_sub_cancel_left, abs_sub_comm, mul_one_div]
  calc _ ≤ max |p / d - q / d| |(1 - p) / (1 - d) - (1 - q) / (1 - d)| := abs_min_sub_min_le_max _ _ _ _
    _ = _ := by rw [rise, fall, mul_max_of_nonneg _ _ (abs_nonneg _)]

/-- Settles O26: inside the band by the minimum of the two segments, at the corners by evaluation. -/
theorem triangleMeetsItsCorners : Obligations.TriangleMeetsItsCorners := by
  intro eps heps heps1
  refine ⟨fun d hlo hhi => ?band, fun d _ _ => ?breakpoint, fun p hp0 hp1 => ?ramps⟩
  case band =>
    have hd : 0 < d := heps.trans_le hlo
    have hd' : 0 < 1 - d := by linarith
    refine ⟨by simp [wave, hd], fun p hp _ => ?_, fun p q _ _ _ _ => ?_⟩
    · rw [wave_triangle_eq_min heps hlo hhi, min_eq_right]
      rw [div_le_div_iff₀ hd' hd]
      linarith
    · simp only [wave_triangle_eq_min heps hlo hhi]
      exact abs_min_segments_sub_le hd hd' p q
  case breakpoint => simp [wave]
  case ramps => simp [wave, hp0.not_gt, hp1, heps1.le]

/-! ### Registers the timer and a buffer leave alone -/

section
variable (draw : Nat → Fin nSteps) (sr : Rat) (n : Nat) (s : State)

@[simp] theorem clockLossTimer_phase : (clockLossTimer sr s).phase = s.phase := by rw [clockLossTimer_frame]
@[simp] theorem clockLossTimer_freeRunHz : (clockLossTimer sr s).freeRunHz = s.freeRunHz := by rw [clockLossTimer_frame]
@[simp] theorem clockLossTimer_dutyCycle : (clockLossTimer sr s).dutyCycle = s.dutyCycle := by rw [clockLossTimer_frame]
@[simp] theorem clockLossTimer_shape : (clockLossTimer sr s).shape = s.shape := by rw [clockLossTimer_frame]
@[simp] theorem clockLossTimer_extClockEn : (clockLossTimer sr s).extClockEn = s.extClockEn := by rw [clockLossTimer_frame]
@[simp] theorem clockLossTimer_measuredPeriodSeconds :
    (clockLossTimer sr s).measuredPeriodSeconds = s.measuredPeriodSeconds := by rw [clockLossTimer_frame]
@[simp] theorem clockLossTimer_ratioIndex : (clockLossTimer sr s).ratioIndex = s.ratioIndex := by rw [clockLossTimer_frame]
@[simp] theorem clockLossTimer_sampleOut : (clockLossTimer sr s).sampleOut = s.sampleOut := by rw [clockLossTimer_frame]
@[simp] theorem clockLossTimer_params : (clockLossTimer sr s).params = s.params := by rw [clockLossTimer_frame]

@[simp] theorem generate_freeRunHz : (generate draw sr n s).freeRunHz = s.freeRunHz := by rw [generate_frame]
@[simp] theorem generate_dutyCycle : (generate draw sr n s).dutyCycle = s.dutyCycle := by rw [generate_frame]
@[simp] theorem generate_shape : (generate draw sr n s).shape = s.shape := by rw [generate_frame]
@[simp] theorem generate_extClockEn : (generate draw sr n s).extClockEn = s.extClockEn := by rw [generate_frame]
@[simp] theorem generate_measuredPeriodSeconds :
    (generate draw sr n s).measuredPeriodSeconds = s.measuredPeriodSeconds := by rw [generate_frame]
@[simp] theorem generate_ratioIndex : (generate draw sr n s).ratioIndex = s.ratioIndex := by rw [generate_frame]
@[simp] theorem generate_params : (generate draw sr n s).params = s.params := by rw [generate_frame]

end

/-! ### One sample -/

theorem exec_gen {sr : Nat} (hsr : sr ≠ 0) (n : Nat) (s : State) :
    exec (.gen sr n) s = .next (generate Config.draw sr n s) :=
  exec_eq_next_iff.mpr (.gen n s hsr)

theorem exec_gen_zero_rate (n : Nat) (s : State) : exec (.gen 0 n) s = .next s :=
  exec_eq_next_iff.mpr (.genIgnored n s)

/-- The timer's two writes, in one equation (R107). -/
theorem clockLossTimer_eq (sr : Rat) (s : State) :
    let age := if s.valid then s.pulseAge + 1 / sr else s.pulseAge
    clockLossTimer sr s = (s.setPulseAge age).setValid (s.valid && decide (age ≤ 20)) := by
  obtain ⟨hv, e⟩ | ⟨hv, hage, e⟩ | ⟨hv, hage, e⟩ := clockLossTimer_cases sr s
  · simp only [e, hv, Bool.false_eq_true, if_false, Bool.false_and]
    rw [← hv]
    rfl
  · rw [tLoss] at hage
    simp only [e, hv, if_true, Bool.true_and, hage, decide_true]
    rw [← hv]
    rfl
  · rw [tLoss] at hage
    simp only [e, hv, if_true, Bool.true_and, hage.not_ge, decide_false]

theorem selectFreq_of_free {s : State} (h : (s.extClockEn && s.valid) = false) : selectFreq s = s.freeRunHz := by
  simp [selectFreq, h]

theorem selectFreq_of_slaved {s : State} {p : Rat} (h : (s.extClockEn && s.valid) = true)
    (hp : s.measuredPeriodSeconds = some p) : selectFreq s = ratio s.ratioIndex / p := by
  simp [selectFreq, h, hp]

theorem risingEdge_iff {th v : Rat} {prev : Option Rat} :
    risingEdge th prev v = true ↔ (∃ q, prev = some q ∧ q < th) ∧ th ≤ v := by
  cases prev <;> simp [risingEdge]

/-- A sample advances the sequencer exactly when the emitted value makes a rising edge in Internal mode (R82, R128). -/
theorem sample_eq_ite (draw : Nat → Fin nSteps) (sr : Rat) (s : State) {v : Rat}
    (hv : (sampleEmitted sr s).prevSample = some v) :
    sample draw sr s = if risingEdge s.params.edgeTh s.prevSample v = true ∧ s.trigSel = .internal
      then advance draw (sampleEmitted sr s) else sampleEmitted sr s := by
  obtain rfl := Option.some.inj hv
  unfold sample sampleEmitted
  dsimp only
  rw [clockLossTimer_frame]

/-- The phase after a sample, and the value emitted from it (R82). -/
theorem sampleEmitted_eq (sr : Rat) (s : State) :
    let ph := frac (s.phase + selectFreq (clockLossTimer sr s) / sr)
    sampleEmitted sr s = ((clockLossTimer sr s).setPhase ph).emit (wave s.params.eps s.shape ph s.dutyCycle) := by
  simp only [sampleEmitted, clockLossTimer_phase, clockLossTimer_params, clockLossTimer_shape, clockLossTimer_dutyCycle]

/-- Settles O27: the timer, the selected frequency and the reduced phase give the emitted state; the edge decides the rest. -/
theorem oneSampleFollowsTheAlgorithm : Obligations.OneSampleFollowsTheAlgorithm := by
  intro s sr f ph k hsr age ok hf h0 h1 hph v u fires
  have htimer : clockLossTimer sr s = (s.setPulseAge age).setValid ok := clockLossTimer_eq sr s
  have hfreq : selectFreq (clockLossTimer sr s) = f := by
    rw [htimer]
    split at hf
    case isTrue slaved =>
      obtain ⟨p, hp, rfl⟩ := hf
      exact selectFreq_of_slaved slaved hp
    case isFalse free => rw [hf]; exact selectFreq_of_free (by simpa using free)
  have hemit : sampleEmitted sr s = u := by
    rw [sampleEmitted_eq, hfreq, frac_unique h0 h1 hph, htimer]
    rfl
  have hprev : (sampleEmitted sr s).prevSample = some v := by rw [hemit]
  have hexec : exec (.gen sr 1) s = .next _ := (exec_gen hsr.ne' 1 s).trans
    (congrArg _ (sample_eq_ite Config.draw sr s hprev))
  have hfires : fires ↔ risingEdge s.params.edgeTh s.prevSample v = true ∧ s.trigSel = .internal := by
    rw [risingEdge_iff, and_assoc]
  rw [hexec, hemit]
  constructor <;> intro h
  · rw [if_pos (hfires.mp h), exec_eq_next_iff.mpr (.mstep u)]
  · rw [if_neg (hfires.not.mp h)]

/-! ### Buffers of samples -/

/-- A buffer is a first part and then the rest (R90). -/
theorem generate_add (draw : Nat → Fin nSteps) (sr : Rat) (a b : Nat) (s : State) :
    generate draw sr (a + b) s = generate draw sr b (generate draw sr a s) := by
  induction a generalizing s with
  | zero => rw [Nat.zero_add, generate_zero]
  | succ a ih => rw [Nat.succ_add, generate_succ, ih, generate_succ]

/-- The last sample of a buffer comes after the others. -/
theorem generate_succ' (draw : Nat → Fin nSteps) (sr : Rat) (n : Nat) (s : State) :
    generate draw sr (n + 1) s = sample draw sr (generate draw sr n s) := generate_add draw sr n 1 s

/-- Settles O28: at a rate other than 0 a buffer is its first sample and then the rest. -/
theorem genRepeatsSamples : Obligations.GenRepeatsSamples := by
  intro sr n s
  refine ⟨fun hsr hn => ?decodes, exec_gen_zero_rate n s, ?empty, fun hsr => ⟨_, exec_gen hsr 1 s, ?first⟩⟩
  case decodes =>
    exact Instr.WellFormed.decode_encode (i := .gen sr n)
      (Bool.and_eq_true_iff.mpr ⟨decide_eq_true hsr, decide_eq_true hn⟩)
  case empty =>
    obtain rfl | hsr := eq_or_ne sr 0
    · exact exec_gen_zero_rate 0 s
    · exact exec_gen hsr 0 s
  case first => rw [exec_gen hsr, exec_gen hsr]; rfl

/-- Settles O29: at rate 0 all three commands are ignored; otherwise the samples of the parts are those of the whole. -/
theorem genSplitsAnywhere : Obligations.GenSplitsAnywhere := by
  intro sr a b s
  obtain rfl | hsr := eq_or_ne sr 0
  · simp only [run_cons (exec_gen_zero_rate _ s)]
  · rw [run_cons (exec_gen hsr _ s), run_cons (exec_gen hsr a s), run_cons (exec_gen hsr b _), generate_add]

theorem sample_phase (draw : Nat → Fin nSteps) (sr : Rat) (s : State) :
    (sample draw sr s).phase = frac (s.phase + selectFreq (clockLossTimer sr s) / sr) := by
  obtain e | ⟨-, e⟩ := sample_cases draw sr s <;> simp [e, sampleEmitted_eq]

/-- Reducing a phase before an increment does not change the reduced sum (R10). -/
theorem frac_frac_add (x y : Rat) : frac (frac x + y) = frac (x + y) := by
  simp only [frac_eq_fract]
  exact Int.fract_eq_fract.mpr ⟨-⌊x⌋, by rw [Int.fract]; push_cast; ring⟩

/-- Samples that all select the same frequency `f` move the phase by `n f / sr` modulo 1 (R82, R89). -/
theorem generate_phase (draw : Nat → Fin nSteps) {sr f : Rat} {n : Nat} {s : State} (h0 : 0 ≤ s.phase) (h1 : s.phase < 1)
    (hf : ∀ i < n, selectFreq (clockLossTimer sr (generate draw sr i s)) = f) :
    (generate draw sr n s).phase = frac (s.phase + n * (f / sr)) := by
  induction n with
  | zero => exact (frac_unique (k := 0) h0 h1 (by simp)).symm
  | succ n ih =>
    rw [generate_succ', sample_phase, hf n n.lt_succ_self, ih fun i hi => hf i (hi.trans n.lt_succ_self), frac_frac_add]
    push_cast
    ring_nf

/-- A free-running LFO stays so through a buffer: SETXCLK and PULSE alone could slave it (R82, R109). -/
theorem selectFreq_generate_of_free (draw : Nat → Fin nSteps) (sr : Rat) (n : Nat) {s : State}
    (h : s.extClockEn = false ∨ s.valid = false) :
    selectFreq (clockLossTimer sr (generate draw sr n s)) = s.freeRunHz := by
  have free : ((generate draw sr n s).extClockEn && (clockLossTimer sr (generate draw sr n s)).valid) = false := by
    obtain hx | hv := h
    · simp [hx]
    · rw [← sample_valid draw, ← generate_succ', (generate_invalid draw sr _ hv).1, Bool.and_false]
  rw [selectFreq_of_free (by simpa using free)]
  simp

/-- A valid clock stays valid, and ages by the buffer's time, while that time fits the window (R107). -/
theorem generate_within_window (draw : Nat → Fin nSteps) {sr : Rat} (hsr : 0 < sr) {n : Nat} {s : State}
    (hv : s.valid = true) (hage : s.pulseAge + n / sr ≤ 20) :
    (generate draw sr n s).valid = true ∧ (generate draw sr n s).pulseAge = s.pulseAge + n / sr := by
  induction n with
  | zero => simpa using hv
  | succ n ih =>
    have grown : s.pulseAge + n / sr + 1 / sr = s.pulseAge + (n + 1 : Nat) / sr := by push_cast; ring
    have step_nonneg : 0 ≤ 1 / sr := (one_div_pos.mpr hsr).le
    obtain ⟨hvalid, hpulse⟩ := ih (by linarith)
    rw [generate_succ', sample_valid, sample_pulseAge, clockLossTimer_eq]
    simp only [State.setValid_valid, State.setValid_pulseAge, State.setPulseAge_pulseAge, hvalid, hpulse, if_true,
      Bool.true_and, grown, hage, decide_true, and_self]

/-- A slaved LFO stays slaved while the timer is within the window (R82, R107, R109). -/
theorem selectFreq_generate_of_slaved (draw : Nat → Fin nSteps) {sr p : Rat} (hsr : 0 < sr) {n : Nat} {s : State}
    (hx : s.extClockEn = true) (hv : s.valid = true) (hp : s.measuredPeriodSeconds = some p)
    (hage : s.pulseAge + (n + 1 : Nat) / sr ≤ 20) :
    selectFreq (clockLossTimer sr (generate draw sr n s)) = ratio s.ratioIndex / p := by
  obtain ⟨hvalid, -⟩ := generate_within_window draw hsr hv hage
  rw [generate_succ', sample_valid] at hvalid
  rw [selectFreq_of_slaved (p := p) (by simp [hx, hvalid]) (by simpa using hp)]
  simp

/-- A number that is not negative is its fractional part and a natural number. -/
theorem frac_add_natFloor {x : Rat} (h : 0 ≤ x) : frac x + ⌊x⌋₊ = x := by
  rw [frac_eq_fract, natCast_floor_eq_intCast_floor h, Int.fract_add_floor]

/-- A buffer whose samples all select the frequency `f` moves the phase by `n f / sr` up to whole turns (R82, R89). -/
theorem exec_gen_moves_phase {sr n : Nat} {s : State} {f : Rat} (h : Inv s) (hsr : sr ≠ 0) (hf : 0 ≤ f)
    (hsel : ∀ i < n, selectFreq (clockLossTimer sr (generate Config.draw sr i s)) = f) :
    ∃ (t : State) (k : Nat), exec (.gen sr n) s = .next t ∧
      t.phase + k = s.phase + n * (f / sr) ∧ 0 ≤ t.phase ∧ t.phase < 1 := by
  obtain ⟨h0, h1⟩ := h.phase_range
  have total : 0 ≤ s.phase + n * (f / sr) := by positivity
  refine ⟨_, ⌊s.phase + n * (f / sr)⌋₊, exec_gen hsr n s, ?_⟩
  rw [generate_phase _ h0 h1 hsel]
  exact ⟨frac_add_natFloor total, frac_nonneg _, frac_lt_one _⟩

/-- Settles O34: free-running or slaved, every sample of the buffer selects the same frequency. -/
theorem phaseAdvancesByTheSelectedFrequency : Obligations.PhaseAdvancesByTheSelectedFrequency := by
  intro sr n s hinv hsr
  constructor
  · intro free
    have hfreq : 0 ≤ s.freeRunHz := le_trans (by norm_num [fMin]) hinv.freq_range.1
    exact exec_gen_moves_phase hinv hsr hfreq fun i _ => selectFreq_generate_of_free _ _ i free
  · intro p hx hv hp hage
    obtain ⟨hperiod, -⟩ := hinv.period_range p hp
    have hfreq : 0 ≤ ratio s.ratioIndex / p := (div_pos (ratio_pos _) hperiod).le
    refine exec_gen_moves_phase hinv hsr hfreq fun i hi => ?_
    refine selectFreq_generate_of_slaved _ (rate_pos hsr) hx hv hp (le_trans ?_ hage)
    gcongr
    exact hi

/-! ### The square wave's duty -/

/-- The samples a buffer emits are the shaped phases after each of its samples (R82, R83). -/
theorem generate_sampleOut (draw : Nat → Fin nSteps) (sr : Rat) (n : Nat) (s : State) :
    (generate draw sr n s).sampleOut = s.sampleOut ++ (List.range n).map fun i =>
      wave s.params.eps s.shape (generate draw sr (i + 1) s).phase s.dutyCycle := by
  have emits (u : State) : (sample draw sr u).sampleOut =
      u.sampleOut ++ [wave u.params.eps u.shape (sample draw sr u).phase u.dutyCycle] := by
    rw [sample_phase]
    obtain e | ⟨-, e⟩ := sample_cases draw sr u <;> simp [e, sampleEmitted_eq, State.emit]
  induction n with
  | zero => simp
  | succ n ih =>
    rw [generate_succ', emits, ih, List.range_succ]
    simp [← generate_succ']

/-- The ones among the square samples of the phases `x i`, `i < n`, are the `i` whose phase is below the duty (R81). -/
theorem count_one_square (eps d : Rat) (x : Nat → Rat) (n : Nat) :
    ((List.range n).map fun i => wave eps .square (x i) d).count 1 = Nat.count (fun i => x i < d) n := by
  rw [List.count, List.countP_map, Nat.count]
  refine List.countP_congr fun i _ => ?_
  by_cases h : x i < d <;> simp [wave, h]

/-- A periodic predicate holds equally often in every window of one period. -/
theorem count_shift_of_periodic {p : Nat → Prop} [DecidablePred p] {N : Nat} (hp : ∀ i, p (N + i) ↔ p i) (j : Nat) :
    Nat.count (fun i => p (j + i)) N = Nat.count p N := by
  have split := Nat.count_add p j N
  have split' := Nat.count_add p N j
  have period : Nat.count (fun i => p (N + i)) j = Nat.count p j := List.countP_congr fun i _ => by simp [hp i]
  rw [period, Nat.add_comm N j] at split'
  omega

/-- Of the residues `r < N`, as many have `r / N` below `d` as the ceiling of `d N` says. -/
theorem count_residues_lt {d : Rat} (hd : d ≤ 1) {N : Nat} (hN : 0 < N) :
    Nat.count (fun r => ((r % N : Nat) : Rat) / N < d) N = ⌈d * N⌉₊ := by
  have hN' : (0 : Rat) < N := Nat.cast_pos.mpr hN
  have hceil : ⌈d * N⌉₊ ≤ N := Nat.ceil_le.mpr (mul_le_of_le_one_left hN'.le hd)
  have below : {r ∈ Finset.range N | ((r % N : Nat) : Rat) / N < d} = Finset.range ⌈d * N⌉₊ := by
    ext r
    simp only [Finset.mem_filter, Finset.mem_range, Nat.lt_ceil, div_lt_iff₀ hN']
    constructor
    · rintro ⟨hr, h⟩
      rwa [Nat.mod_eq_of_lt hr] at h
    · intro h
      have hr : r < N := (Nat.lt_ceil.mpr h).trans_le hceil
      exact ⟨hr, by rwa [Nat.mod_eq_of_lt hr]⟩
  rw [Nat.count_eq_card_filter_range, below, Finset.card_range]

/-- Settles O32: the phases of a period are the multiples of `1/N`, each once, and the duty takes those below it. -/
theorem squareDutyFraction : Obligations.SquareDutyFraction := by
  intro s sr N j hinv hshape hfree hsr hN hfreq _ hphase
  have hN' : (N : Rat) ≠ 0 := Nat.cast_ne_zero.mpr hN.ne'
  have hsr' : (sr : Rat) ≠ 0 := Nat.cast_ne_zero.mpr hsr.ne'
  obtain ⟨h0, h1⟩ := hinv.phase_range
  obtain ⟨hd0, hd1⟩ := hinv.duty_range
  have phases (i : Nat) : (generate Config.draw sr (i + 1) s).phase = (((j + 1 + i) % N : Nat) : Rat) / N := by
    have increment : s.freeRunHz / sr = 1 / N := by rw [div_eq_div_iff hsr' hN', one_mul, hfreq]
    rw [generate_phase _ h0 h1 fun i _ => selectFreq_generate_of_free _ _ i hfree, increment, hphase,
      ← Int.fract_div_natCast_eq_div_natCast_mod, frac_eq_fract]
    congr 1
    push_cast
    ring
  have ones := count_residues_lt hd1 hN
  rw [← count_shift_of_periodic (fun i => by rw [Nat.add_mod_left]) (j + 1)] at ones
  simp only [← phases] at ones
  rw [← count_one_square s.params.eps, ← hshape] at ones
  have hdN : 0 ≤ s.dutyCycle * N := by positivity
  refine ⟨_, _, exec_gen hsr.ne' N s, generate_sampleOut _ _ _ _, by simp, ?_, ?_, ?_⟩ <;> rw [ones]
  · exact Int.natCast_ceil_eq_ceil hdN
  · exact Nat.ceil_lt_add_one hdN
  · exact Nat.le_ceil _

end Sys2Proof.Machine

namespace Sys2Proof.Machine

/-! ### The cases of a pulse -/

section
variable {s : State} {t t0 : Rat}

/-- The first pulse arms the unit (R103). -/
theorem onPulse_of_first (h : s.lastPulseTimestamp = none) :
    onPulse t s = ((s.setLastPulse t).setValid false).setPulseAge 0 := by
  simp only [onPulse, h]

/-- A timestamp that does not advance is ignored (R103). -/
theorem onPulse_of_not_after (h : s.lastPulseTimestamp = some t0) (hle : t ≤ t0) : onPulse t s = s := by
  simp only [onPulse, h, sub_nonpos.mpr hle, if_true]

/-- A pulse more than 20 s after the stored one starts the next pair (R103). -/
theorem onPulse_of_late (h : s.lastPulseTimestamp = some t0) (hlate : t0 + 20 < t) :
    onPulse t s = ((s.setValid false).setLastPulse t).setPulseAge 0 := by
  have after : ¬ t - t0 ≤ 0 := by linarith
  have late : tLoss < t - t0 := by rw [tLoss]; linarith
  simp only [onPulse, h, after, late, if_true, if_false]

/-- A pulse at most 20 s after the stored one stores the time between them as the period (R103). -/
theorem onPulse_of_in_time (h : s.lastPulseTimestamp = some t0) (hlt : t0 < t) (hle : t ≤ t0 + 20) :
    onPulse t s = (((s.setPeriod (t - t0)).setValid true).setLastPulse t).setPulseAge 0 := by
  have after : ¬ t - t0 ≤ 0 := by linarith
  have inTime : ¬ tLoss < t - t0 := by rw [tLoss]; linarith
  simp only [onPulse, h, after, inTime, if_false]

/-- A pulse whose timestamp advances, or the first one, is stored, even when it is late (R103). -/
theorem onPulse_lastPulseTimestamp_of_after (h : ∀ t0, s.lastPulseTimestamp = some t0 → t0 < t) :
    (onPulse t s).lastPulseTimestamp = some t := by
  obtain ⟨-, e⟩ | ⟨t0, h0, ⟨hle, -⟩ | ⟨-, e⟩ | ⟨-, -, e⟩⟩ := onPulse_cases t s
  · rw [e]; rfl
  · exact absurd (h t0 h0) (sub_nonpos.mp hle).not_gt
  · rw [e]; rfl
  · rw [e]; rfl

end

@[simp] theorem onPulse_ratioIndex (t : Rat) (s : State) : (onPulse t s).ratioIndex = s.ratioIndex := by
  rw [onPulse_frame]

theorem exec_pulse (q : Nat) (s : State) : exec (.pulse q) s = .next (onPulse (q32_16 q) s) :=
  exec_eq_next_iff.mpr (.pulse q s)

theorem q32_16_eq (q : Nat) : q32_16 q = (q : Rat) / 2 ^ 16 := by norm_num [q32_16]

theorem q32_16_lt {a b : Nat} (h : a < b) : q32_16 a < q32_16 b := by
  unfold q32_16
  gcongr

/-- Twenty seconds are `20 * 2 ^ 16` units of a Q32.16 timestamp (R63). -/
theorem q32_16_le_add_window {a b : Nat} (h : b ≤ a + 20 * 2 ^ 16) : q32_16 b ≤ q32_16 a + 20 := by
  have hq : (b : Rat) ≤ a + 20 * 65536 := by exact_mod_cast h
  unfold q32_16
  linarith

/-- Settles O36: one lemma per case. -/
theorem pulseMeasuresThePeriod : Obligations.PulseMeasuresThePeriod := by
  intro q s
  rw [← q32_16_eq, exec_pulse]
  refine ⟨fun hq => ?decodes, fun hfirst => ?first, fun t0 h0 => ⟨fun hle => ?ignored, fun hlate => ?late,
    fun hlt hle => ?accepted⟩⟩
  case decodes => exact Instr.WellFormed.decode_encode (i := .pulse q) (decide_eq_true hq)
  case first => rw [onPulse_of_first hfirst]; rfl
  case ignored => rw [onPulse_of_not_after h0 hle]
  case late => rw [onPulse_of_late h0 hlate]; rfl
  case accepted => rw [onPulse_of_in_time h0 hlt hle]; rfl

/-! ### The ratio and the effective frequency -/

/-- Settles O39: the index is clamped, and the table is read at its seventeen entries. -/
theorem setratioSelectsTheRatio : Obligations.SetratioSelectsTheRatio := by
  refine ⟨fun k s => ⟨fun hk => ?decodes, ratioIndexOf k, ?clamped, exec_eq_next_iff.mpr (.setratio k s)⟩, ?table⟩
  case decodes => exact Instr.WellFormed.decode_encode (i := .setratio k) (decide_eq_true hk)
  case clamped => rw [ratioIndexOf_val, min_def]
  case table => decide +kernel

/-- The smallest ratio is that of index 0 (R100). -/
theorem ninth_le_ratio (i : Fin nRatios) : 1 / 9 ≤ ratio i := by
  revert i; decide +kernel

theorem effFreq_of_invalid {s : State} (h : s.valid = false) : effFreq s = none := by
  simp [effFreq, h]

theorem effFreq_of_valid {s : State} {p : Rat} (h : s.valid = true) (hp : s.measuredPeriodSeconds = some p) :
    effFreq s = some (ratio s.ratioIndex * (1 / p)) := by
  simp [effFreq, h, hp]

/-- Settles O41: the bound is the smallest ratio over the longest period. -/
theorem effFreqIsTheScaledClock : Obligations.EffFreqIsTheScaledClock := by
  refine fun s hinv => ⟨effFreq_of_invalid, fun hv => ?_, fun _ => rfl⟩
  obtain ⟨⟨p, hp⟩, -, -⟩ := hinv.valid_locked hv
  obtain ⟨hpos, hwin⟩ := hinv.period_range p hp
  refine ⟨p, _, hp, effFreq_of_valid hv hp, by field_simp, ?_⟩
  calc (1 / 180 : Rat) = 1 / 9 * (1 / tLoss) := by norm_num [tLoss]
    _ ≤ ratio s.ratioIndex * (1 / p) :=
      mul_le_mul (ninth_le_ratio _) (one_div_le_one_div_of_le hpos hwin) (by norm_num [tLoss]) (ratio_pos _).le

/-! ### Situations of the Clock Sync Unit -/

section
variable {s : State}

theorem situation_of_valid (h : s.valid = true) : situation s = .locked := by
  simp [situation, h]

theorem situation_of_stamped (h : s.valid = false) (ht : s.lastPulseTimestamp ≠ none) : situation s = .armed := by
  simp [situation, h, Option.isSome_iff_ne_none.mpr ht]

theorem situation_of_unstamped (h : s.valid = false) (ht : s.lastPulseTimestamp = none) : situation s = .idle := by
  simp [situation, h, ht]

/-- Once a pulse is stored the unit is Armed or Locked (R108). -/
theorem situation_cases_of_stamped (ht : s.lastPulseTimestamp ≠ none) : situation s = .armed ∨ situation s = .locked := by
  cases hv : s.valid with
  | false => exact .inl (situation_of_stamped hv ht)
  | true => exact .inr (situation_of_valid hv)

end

/-- The situation is read from two registers (R108). -/
theorem situation_congr {s t : State} (hv : t.valid = s.valid) (ht : t.lastPulseTimestamp = s.lastPulseTimestamp) :
    situation t = situation s := by
  rw [situation, situation, hv, ht]

@[simp] theorem generate_lastPulseTimestamp (draw : Nat → Fin nSteps) (sr : Rat) (n : Nat) (s : State) :
    (generate draw sr n s).lastPulseTimestamp = s.lastPulseTimestamp := by rw [generate_frame]

/-- A buffer keeps the situation, or its samples expire the timer (R107, R108). -/
theorem situation_generate_of_inv {s : State} (h : Inv s) (draw : Nat → Fin nSteps) (sr : Rat) (n : Nat) :
    situation (generate draw sr n s) = situation s ∨
    (situation s = .locked ∧ situation (generate draw sr n s) = .armed) := by
  have stamp := generate_lastPulseTimestamp draw sr n s
  cases hv : s.valid with
  | false => exact .inl (situation_congr ((generate_invalid draw sr n hv).1.trans hv.symm) stamp)
  | true =>
    obtain ⟨-, stamped, -⟩ := h.valid_locked hv
    rw [← stamp] at stamped
    obtain armed | locked := situation_cases_of_stamped stamped
    · exact .inr ⟨situation_of_valid hv, armed⟩
    · exact .inl (locked.trans (situation_of_valid hv).symm)

/-- A pulse keeps the situation, arms an idle unit, locks an armed one, or unlocks one when it is late (R103, R108). -/
theorem situation_onPulse_of_inv {s : State} (h : Inv s) (t : Rat) :
    situation (onPulse t s) = situation s ∨ (situation s = .idle ∧ situation (onPulse t s) = .armed) ∨
    (situation s = .armed ∧ situation (onPulse t s) = .locked) ∨
    (situation s = .locked ∧ situation (onPulse t s) = .armed) := by
  obtain ⟨h0, e⟩ | ⟨t0, h0, ⟨-, e⟩ | ⟨-, e⟩ | ⟨-, -, e⟩⟩ := onPulse_cases t s <;> rw [e]
  · have invalid : s.valid = false := by
      refine Bool.eq_false_iff.mpr fun hv => ?_
      obtain ⟨-, stamped, -⟩ := h.valid_locked hv
      exact stamped h0
    exact .inr (.inl ⟨situation_of_unstamped invalid h0, rfl⟩)
  · exact .inl rfl
  · obtain armed | locked := situation_cases_of_stamped (h0.trans_ne (Option.some_ne_none t0))
    · exact .inl armed.symm
    · exact .inr (.inr (.inr ⟨locked, rfl⟩))
  · obtain armed | locked := situation_cases_of_stamped (h0.trans_ne (Option.some_ne_none t0))
    · exact .inr (.inr (.inl ⟨armed, rfl⟩))
    · exact .inl locked.symm

/-- Settles O40: a pulse and a buffer move the unit along its arrows, no other command writes its two registers. -/
theorem lifecycleMovesOnlyAsDrawn : Obligations.LifecycleMovesOnlyAsDrawn := by
  intro i s t hinv h
  cases exec_eq_next_iff.mp h with
  | gen n s _ => simpa [Instr.opcode] using situation_generate_of_inv hinv Config.draw _ n
  | pulse q s => simpa [Instr.opcode] using situation_onPulse_of_inv hinv (q32_16 q)
  | gate s _ | mstep s => exact .inl (situation_congr (advance_valid _ s) (advance_lastPulseTimestamp _ s))
  | _ => exact .inl rfl

/-! ### Locking and the clock-loss window -/

/-- Settles O37: the first pulse is stored, and the second measures its period from it. -/
theorem pulsePairLocksTheFrequency : Obligations.PulsePairLocksTheFrequency := by
  intro q1 q2 s hlt hle hinc
  have stored : (onPulse (q32_16 q1) s).lastPulseTimestamp = some (q32_16 q1) :=
    onPulse_lastPulseTimestamp_of_after hinc
  have second := onPulse_of_in_time stored (q32_16_lt hlt) (q32_16_le_add_window hle)
  refine ⟨_, by rw [run_cons (exec_pulse q1 s), run_cons (exec_pulse q2 _), run_nil, second], rfl, rfl, rfl, ?_⟩
  rw [effFreq_of_valid rfl rfl, q32_16_sub, one_div_div]
  norm_num [mul_div_assoc]

/-- A clock that ends a buffer valid has been so within the window (R107). -/
theorem window_of_valid_generate (draw : Nat → Fin nSteps) {sr : Rat} (hsr : 0 < sr) {n : Nat} {s : State}
    (hv : s.valid = true) (hage : s.pulseAge ≤ 20) (h : (generate draw sr n s).valid = true) :
    s.pulseAge + n / sr ≤ 20 := by
  induction n with
  | zero => simpa using hage
  | succ n ih =>
    rw [generate_succ', sample_valid, clockLossTimer_eq, State.setValid_valid, Bool.and_eq_true,
      decide_eq_true_eq] at h
    obtain ⟨hvalid, hlast⟩ := h
    obtain ⟨-, hpulse⟩ := generate_within_window draw hsr hv (ih hvalid)
    rw [if_pos hvalid, hpulse] at hlast
    push_cast
    rwa [add_div, ← add_assoc]

/-- Settles O35: within the window the clock stays valid, and no valid clock is past it. -/
theorem timerExpiresAfterTheWindow : Obligations.TimerExpiresAfterTheWindow := by
  intro sr n s hinv hv hsr
  obtain ⟨-, -, hage⟩ := hinv.valid_locked hv
  have window := window_of_valid_generate Config.draw (n := n) (rate_pos hsr) hv hage
  have stays := generate_within_window Config.draw (n := n) (rate_pos hsr) hv
  exact ⟨_, exec_gen hsr n s, ⟨window, fun hfits => (stays hfits).1⟩, fun hvalid => (stays (window hvalid)).2,
    generate_measuredPeriodSeconds .., generate_lastPulseTimestamp ..⟩

/-- Settles O38: the samples fit the window, because the pulses do, and they leave the first timestamp stored. -/
theorem oneTimeBaseKeepsTheLock : Obligations.OneTimeBaseKeepsTheLock := by
  intro sr n q1 q2 s hv hstamp hage hsr hlt hle hbase
  have inTime := q32_16_le_add_window hle
  have fits : s.pulseAge + n / sr ≤ 20 := by
    rw [OneTimeBase] at hbase
    linarith
  have kept : (generate Config.draw sr n s).lastPulseTimestamp = some (q32_16 q1) := by
    rw [generate_lastPulseTimestamp, hstamp]
  have second := onPulse_of_in_time kept (q32_16_lt hlt) inTime
  obtain ⟨valid, -⟩ := generate_within_window Config.draw (rate_pos hsr) hv fits
  exact ⟨_, _, exec_gen hsr n s, valid, by rw [exec_pulse, second], rfl, rfl⟩

end Sys2Proof.Machine

namespace Sys2Proof.Machine

/-! ### One application of a stepping rule -/

theorem step_val_add (c d : Fin nSteps) : (c + d).val = (c.val + d.val) % 8 := Fin.val_add c d

/-- A residue modulo 8 moves around the eight steps as a step index does (R10). -/
theorem mod8_add (c : Fin nSteps) (z : Int) : mod8 (c.val + z) = c + mod8 z := by
  have hz := mod8_val z
  have hcz := mod8_val (c.val + z)
  ext
  rw [step_val_add]
  omega

section
variable (mask : Vector Bool nSteps) (d c : Fin nSteps) (ph : Bool)

@[simp] theorem applyRule_up : applyRule mask d .up c ph = (c + 1, ph) := by
  simp only [applyRule, mod8_add]
  rfl

@[simp] theorem applyRule_down : applyRule mask d .down c ph = (c + 7, ph) := by
  simp only [applyRule, Int.sub_eq_add_neg, mod8_add]
  rfl

@[simp] theorem applyRule_random : applyRule mask d .random c ph = (d, ph) := rfl

@[simp] theorem applyRule_p2m1 : applyRule mask d .p2m1 c ph = (c + if ph then 2 else 7, !ph) := by
  cases ph <;> simp only [applyRule, Int.sub_eq_add_neg, mod8_add] <;> rfl

@[simp] theorem applyRule_p1m2 : applyRule mask d .p1m2 c ph = (c + if ph then 1 else 6, !ph) := by
  cases ph <;> simp only [applyRule, Int.sub_eq_add_neg, mod8_add] <;> rfl

/-- Three back and five forth are the same move modulo 8 (R140). -/
@[simp] theorem applyRule_m3p5 : applyRule mask d .m3p5 c ph = (c + 5, !ph) := by
  cases ph <;> simp only [applyRule, Int.sub_eq_add_neg, mod8_add] <;> rfl

theorem applyRule_upDown : applyRule mask d .upDown c ph =
    (c + if turnAtBoundary mask c ph then 1 else 7, turnAtBoundary mask c ph) := by
  simp only [applyRule, Int.sub_eq_add_neg, mod8_add]
  split <;> rfl

/-- Only Random reads the draw (R137). -/
theorem applyRule_draw_irrelevant {kind : SeqKind} (h : kind ≠ .random) (d' : Fin nSteps) :
    applyRule mask d kind c ph = applyRule mask d' kind c ph := by
  cases kind with
  | random => exact absurd rfl h
  | _ => rfl

end

/-- Settles O43, rule by rule. -/
theorem steppingRulesMoveAsTheTableSays : Obligations.SteppingRulesMoveAsTheTableSays := by
  intro mask d c ph
  cases ph <;> simp [step_val_add]

/-! ### The boundaries -/

section
variable {mask : Vector Bool nSteps} {c : Fin nSteps} {ph : Bool}

theorem lowestActive_eq_find? (mask : Vector Bool nSteps) : lowestActive mask = Fin.find? fun i => !mask[i] :=
  Fin.find?_eq_find?_finRange.symm

theorem highestActive_eq_findRev? (mask : Vector Bool nSteps) :
    highestActive mask = Fin.findRev? fun i => !mask[i] := by
  rw [highestActive, List.finRange_reverse, List.find?_map, ← Fin.find?_eq_find?_finRange]
  exact Fin.map_rev_find? (p := fun i => !mask[i])

theorem lowestActive_eq_some_iff : lowestActive mask = some c ↔ mask[c] = false ∧ ∀ j < c, mask[j] = true := by
  simp [lowestActive_eq_find?]

theorem highestActive_eq_some_iff : highestActive mask = some c ↔ mask[c] = false ∧ ∀ j, c < j → mask[j] = true := by
  simp [highestActive_eq_findRev?]

/-- Settles O42: the searches of the mask from either end. -/
theorem boundaryHelpersFindTheExtremes : Obligations.BoundaryHelpersFindTheExtremes := fun mask =>
  ⟨fun _ => lowestActive_eq_some_iff, fun _ => highestActive_eq_some_iff,
    by simp [lowestActive_eq_find?], by simp [highestActive_eq_findRev?]⟩

theorem turnAtBoundary_of_highest (h : highestActive mask = some c) : turnAtBoundary mask c ph = false := by
  simp [turnAtBoundary, h]

theorem turnAtBoundary_of_lowest (hl : lowestActive mask = some c) (hh : highestActive mask ≠ some c) :
    turnAtBoundary mask c ph = true := by
  simp [turnAtBoundary, hl, hh]

theorem turnAtBoundary_of_inner (hl : lowestActive mask ≠ some c) (hh : highestActive mask ≠ some c) :
    turnAtBoundary mask c ph = ph := by
  simp [turnAtBoundary, hl, hh]

/-- A skipped step is no boundary, so UpDown keeps its direction there (R136). -/
theorem turnAtBoundary_of_skipped (h : mask[c] = true) : turnAtBoundary mask c ph = ph := by
  apply turnAtBoundary_of_inner
  · simp [lowestActive_eq_some_iff, h]
  · simp [highestActive_eq_some_iff, h]

end

/-- Settles O44, one boundary at a time. -/
theorem updownTurnsAtTheBoundary : Obligations.UpdownTurnsAtTheBoundary := by
  intro mask d c ph lowest highest r
  have hr : r = _ := applyRule_upDown mask d c ph
  have hlow : lowest ↔ lowestActive mask = some c := lowestActive_eq_some_iff.symm
  have hhigh : highest ↔ highestActive mask = some c := highestActive_eq_some_iff.symm
  rw [hr, hlow, hhigh, step_val_add]
  refine ⟨fun hh => ?_, fun hl hh => ?_, fun hl hh => ?_⟩
  · rw [turnAtBoundary_of_highest hh]; exact ⟨rfl, rfl⟩
  · rw [turnAtBoundary_of_lowest hl hh]; exact ⟨rfl, rfl⟩
  · rw [turnAtBoundary_of_inner hl hh]; cases ph <;> exact ⟨rfl, rfl⟩

/-! ### The chain of probes -/

theorem drawsPerProbe_eq (kind : SeqKind) : drawsPerProbe kind = if kind = .random then 1 else 0 := by
  cases kind <;> rfl

theorem mul_drawsPerProbe (k : Nat) (kind : SeqKind) : k * drawsPerProbe kind = if kind = .random then k else 0 := by
  rw [drawsPerProbe_eq, mul_ite, mul_one, mul_zero]

section
variable (draw : Nat → Fin nSteps) (s : State)

/-- The state in which an advance that commits its `k`-th probe ends (R126). -/
def probed (k : Nat) : State :=
  (s.commitStep (chained draw s k).1 (chained draw s k).2).setDrawCount (s.drawCount + k * drawsPerProbe s.sequenceKind)

@[simp] theorem probed_currentStep (k : Nat) : (probed draw s k).currentStep = (chained draw s k).1 := rfl
@[simp] theorem probed_directionPhase (k : Nat) : (probed draw s k).directionPhase = (chained draw s k).2 := rfl
@[simp] theorem probed_skipMask (k : Nat) : (probed draw s k).skipMask = s.skipMask := rfl
@[simp] theorem probed_sequenceKind (k : Nat) : (probed draw s k).sequenceKind = s.sequenceKind := rfl
@[simp] theorem probed_drawCount (k : Nat) :
    (probed draw s k).drawCount = s.drawCount + k * drawsPerProbe s.sequenceKind := rfl

theorem probed_zero : probed draw s 0 = s := by simp [probed, chained, State.commitStep, State.setDrawCount]

/-- One more probe of the chain; the draws are numbered from the draws consumed so far (R137). -/
theorem chained_succ (k : Nat) : chained draw s (k + 1) =
    applyRule s.skipMask (draw (s.drawCount + k * drawsPerProbe s.sequenceKind)) s.sequenceKind
      (chained draw s k).1 (chained draw s k).2 := by
  by_cases h : s.sequenceKind = .random
  · rw [mul_drawsPerProbe, if_pos h, chained]
  · rw [chained]
    exact applyRule_draw_irrelevant _ _ _ _ h _

theorem probed_succ (k : Nat) : probed draw (probed draw s k) 1 = probed draw s (k + 1) := by
  have next : chained draw (probed draw s k) 1 = chained draw s (k + 1) := by
    rw [chained_succ, chained_succ]
    simp [chained]
  rw [probed, next, probed_drawCount, probed_sequenceKind, add_assoc, ← add_mul]
  rfl

/-- The probe loop with `m` more probes, after `k` of the chain (R126). -/
def probeFrom (m k : Nat) : Option (Fin nSteps × Bool) × Nat :=
  probe draw s.skipMask s.sequenceKind m (probed draw s k).drawCount (chained draw s k).1 (chained draw s k).2

theorem probeFrom_zero (m : Nat) : probeFrom draw s m 0 =
    probe draw s.skipMask s.sequenceKind m s.drawCount s.currentStep s.directionPhase := by
  rw [probeFrom, probed_zero]
  rfl

theorem probeFrom_succ (m k : Nat) : probeFrom draw s (m + 1) k =
    if s.skipMask[(chained draw s (k + 1)).1] then probeFrom draw s m (k + 1)
    else (some (chained draw s (k + 1)), (probed draw s (k + 1)).drawCount) := by
  simp only [probeFrom, probe, probed_drawCount, ← chained_succ, add_mul, one_mul, add_assoc]

end

section
variable {draw : Nat → Fin nSteps} {s : State}

variable (draw s) in
/-- The first `k` probes of the chain land on skipped steps. -/
def SkippedThrough (k : Nat) : Prop := ∀ j, 1 ≤ j → j ≤ k → s.skipMask[(chained draw s j).1] = true

theorem SkippedThrough.mono {j k : Nat} (h : SkippedThrough draw s k) (hjk : j ≤ k) : SkippedThrough draw s j :=
  fun i h1 hi => h i h1 (hi.trans hjk)

theorem SkippedThrough.last {k : Nat} (h : SkippedThrough draw s (k + 1)) :
    s.skipMask[(chained draw s (k + 1)).1] = true := h (k + 1) (Nat.le_add_left ..) le_rfl

/-- Probes that land on skipped steps only use up the loop's count. -/
theorem SkippedThrough.probeFrom {k : Nat} (h : SkippedThrough draw s k) (m : Nat) :
    probeFrom draw s (k + m) 0 = probeFrom draw s m k := by
  induction k generalizing m with
  | zero => rw [Nat.zero_add]
  | succ k ih =>
    rw [Nat.succ_add_eq_add_succ, ih (h.mono k.le_succ), probeFrom_succ, if_pos h.last]

/-- The first probe that lands on an active step is committed (R126). -/
theorem advance_of_first_active {k : Nat} (hk : k < 8) (skipped : SkippedThrough draw s k)
    (active : s.skipMask[(chained draw s (k + 1)).1] = false) : advance draw s = probed draw s (k + 1) := by
  obtain ⟨m, hm⟩ : ∃ m, maxProbes = k + (m + 1) := ⟨7 - k, by rw [maxProbes]; omega⟩
  have committed := skipped.probeFrom (m + 1)
  rw [probeFrom_succ, active, if_neg Bool.false_ne_true, probeFrom_zero, ← hm] at committed
  rw [advance, committed]
  rfl

/-- Eight probes on skipped steps give up, and the draws stay consumed (R126). -/
theorem advance_of_all_skipped (skipped : SkippedThrough draw s 8) :
    advance draw s = s.setDrawCount (s.drawCount + 8 * drawsPerProbe s.sequenceKind) := by
  have gaveUp : probeFrom draw s maxProbes 0 = (none, _) := skipped.probeFrom 0
  rw [probeFrom_zero] at gaveUp
  rw [advance, gaveUp]
  rfl

end

end Sys2Proof.Machine

namespace Sys2Proof.Machine

/-! ### MSTEP and GATE -/

theorem exec_mstep (s : State) : exec .mstep s = .next (advance Config.draw s) := exec_eq_next_iff.mpr (.mstep s)

/-- Settles O46: the two outcomes of the command. -/
theorem gateFollowsTheTriggerMode : Obligations.GateFollowsTheTriggerMode :=
  ⟨by decide, fun s => ⟨fun internal => exec_eq_next_iff.mpr (.gateIgnored s internal),
    fun external => ⟨_, exec_mstep s, exec_eq_next_iff.mpr (.gate s external)⟩⟩⟩

/-- Settles O45: the two ends of the probe loop. -/
theorem advanceCommitsTheFirstActiveProbe : Obligations.AdvanceCommitsTheFirstActiveProbe := by
  refine ⟨by decide, fun s => ⟨fun k h1 h8 skipped active => ?commits, fun skipped => ?givesUp⟩⟩
  case commits =>
    obtain ⟨k, rfl⟩ := Nat.exists_eq_add_of_le' h1
    rw [exec_mstep, advance_of_first_active h8 (fun j h1 hj => skipped j h1 (Nat.lt_succ_of_le hj)) active,
      ← mul_drawsPerProbe]
    rfl
  case givesUp =>
    rw [exec_mstep, advance_of_all_skipped skipped, ← mul_drawsPerProbe]
    rfl

/-- Settles O50: an advance cannot commit where no step is active. -/
theorem allSkippedHolds : Obligations.AllSkippedHolds := by
  intro s skipped
  refine ⟨_, exec_mstep s, ?_⟩
  obtain ⟨n, -, gaveUp⟩ | ⟨c, ph, n, -, active, -⟩ := advance_cases Config.draw s
  · rw [gaveUp]; rfl
  · exact absurd (skipped c) (by simp [active])

/-! ### Random -/

section
variable {draw : Nat → Fin nSteps} {s : State}

/-- Random forgets where it stands: each probe is its draw, and the direction stays (R137). -/
theorem chained_random (h : s.sequenceKind = .random) (k : Nat) :
    chained draw s (k + 1) = (draw (s.drawCount + k), s.directionPhase) := by
  induction k with
  | zero => simp [chained, h, applyRule_random]
  | succ k ih => rw [chained, h, applyRule_random, ih]

end

/-- Settles O49: the chain of Random is its draws. -/
theorem randomLandsOnItsDraws : Obligations.RandomLandsOnItsDraws := by
  intro s h
  have chain (k : Nat) := chained_random (draw := Config.draw) h k
  have skippedThrough {m : Nat} (skipped : ∀ j, j < m → s.skipMask[Config.draw (s.drawCount + j)] = true) :
      SkippedThrough Config.draw s m := by
    intro j h1 hj
    obtain ⟨j, rfl⟩ := Nat.exists_eq_add_of_le' h1
    simpa only [chain] using skipped j hj
  refine ⟨fun k hk skipped active => ?commits, fun skipped => ?givesUp⟩
  case commits =>
    have committed := advance_of_first_active hk (skippedThrough skipped) (by simpa only [chain] using active)
    rw [exec_mstep, committed, probed, chain, mul_drawsPerProbe, if_pos h]
    rfl
  case givesUp =>
    rw [exec_mstep, advance_of_all_skipped (skippedThrough skipped), mul_drawsPerProbe, if_pos h]
    rfl

/-! ### Walks at fixed offsets -/

/-- Offset and working phase after `k` applications of a rule that reads neither the mask nor a draw (R127). -/
def walk (kind : SeqKind) (ph : Bool) : Nat → Fin nSteps × Bool
  | 0 => (0, ph)
  | k + 1 => applyRule (Vector.replicate nSteps false) 0 kind (walk kind ph k).1 (walk kind ph k).2

/-- Such a rule moves by the same amount from every index, whatever the mask and the draw. -/
theorem applyRule_add {kind : SeqKind} (hu : kind ≠ .upDown) (hr : kind ≠ .random) (mask mask' : Vector Bool nSteps)
    (d d' c o : Fin nSteps) (ph : Bool) : applyRule mask d kind (c + o) ph =
      (c + (applyRule mask' d' kind o ph).1, (applyRule mask' d' kind o ph).2) := by
  cases kind with
  | upDown => exact absurd rfl hu
  | random => exact absurd rfl hr
  | up => simp only [applyRule_up, add_assoc]
  | down => simp only [applyRule_down, add_assoc]
  | p2m1 => simp only [applyRule_p2m1, add_assoc]
  | p1m2 => simp only [applyRule_p1m2, add_assoc]
  | m3p5 => simp only [applyRule_m3p5, add_assoc]

section
variable {draw : Nat → Fin nSteps} {s : State}

theorem chained_eq_walk (hu : s.sequenceKind ≠ .upDown) (hr : s.sequenceKind ≠ .random) (k : Nat) :
    chained draw s k = (s.currentStep + (walk s.sequenceKind s.directionPhase k).1,
      (walk s.sequenceKind s.directionPhase k).2) := by
  induction k with
  | zero => simp [chained, walk]
  | succ k ih => rw [chained, ih, applyRule_add hu hr, walk]

/-- The offsets of the eight probes of one advance (R127). -/
def probeOffsets (kind : SeqKind) (ph : Bool) : List Nat := (List.range 8).map fun k => (walk kind ph (k + 1)).1.val

theorem reached_eq_probeOffsets (hu : s.sequenceKind ≠ .upDown) (hr : s.sequenceKind ≠ .random) :
    (List.range 8).map (fun k => (chained draw s (k + 1)).1.val) =
      (probeOffsets s.sequenceKind s.directionPhase).map fun o => (s.currentStep.val + o) % 8 := by
  rw [probeOffsets, List.map_map]
  refine List.map_congr_left fun k _ => ?_
  rw [chained_eq_walk hu hr]
  rfl

end

/-- Settles O48: the offsets are those of a walk from 0. -/
theorem probeOffsetsAreTheTable : Obligations.ProbeOffsetsAreTheTable := by
  intro draw s reached from'
  have table {kind : SeqKind} {offsets : List Nat} (h : s.sequenceKind = kind)
      (hu : kind ≠ .upDown) (hr : kind ≠ .random)
      (hoffsets : probeOffsets kind s.directionPhase = offsets) : reached = from' offsets := by
    subst h hoffsets
    exact reached_eq_probeOffsets hu hr
  refine ⟨fun h => table h nofun nofun ?up, fun h => table h nofun nofun ?down,
    fun h hph => table h nofun nofun ?p2m1_forward, fun h hph => table h nofun nofun ?p2m1_backward,
    fun h hph => table h nofun nofun ?p1m2_forward, fun h hph => table h nofun nofun ?p1m2_backward,
    fun h => table h nofun nofun ?m3p5⟩
  case up | down | m3p5 => cases s.directionPhase <;> decide
  case p2m1_forward | p2m1_backward | p1m2_forward | p1m2_backward => rw [hph]; decide

/-! ### Finding an active step -/

section
variable {draw : Nat → Fin nSteps} {s : State}

theorem exists_active_of_not_skippedThrough {k : Nat} (h : ¬ SkippedThrough draw s k) :
    ∃ j, 1 ≤ j ∧ j ≤ k ∧ s.skipMask[(chained draw s j).1] = false := by
  simpa [SkippedThrough] using h

/-- An advance one of whose eight probes would land on an active step commits (R126). -/
theorem advance_active_of_chained {k : Nat} (h1 : 1 ≤ k) (h8 : k ≤ 8)
    (active : s.skipMask[(chained draw s k).1] = false) :
    (advance draw s).skipMask[(advance draw s).currentStep] = false := by
  induction k using Nat.strong_induction_on with
  | _ k earlier =>
    obtain ⟨k, rfl⟩ := Nat.exists_eq_add_of_le' h1
    by_cases first : SkippedThrough draw s k
    · have committed := advance_of_first_active h8 first active
      simpa only [committed, probed_skipMask, probed_currentStep] using active
    · obtain ⟨j, hj1, hjk, hj⟩ := exists_active_of_not_skippedThrough first
      exact earlier j (Nat.lt_succ_of_le hjk) hj1 (hjk.trans (Nat.le_of_succ_le h8)) hj

/-- UpDown keeps the direction it has turned to while its probes land on skipped steps (R136). -/
theorem turnAtBoundary_chained (h : s.sequenceKind = .upDown) {k : Nat} (skipped : SkippedThrough draw s k) :
    turnAtBoundary s.skipMask (chained draw s k).1 (chained draw s k).2 =
      turnAtBoundary s.skipMask s.currentStep s.directionPhase := by
  induction k with
  | zero => rfl
  | succ k ih =>
    rw [turnAtBoundary_of_skipped skipped.last, chained, h, applyRule_upDown]
    exact ih (skipped.mono k.le_succ)

/-- While no probe commits, Up, Down, UpDown and M3P5 keep moving by one odd stride (R127). -/
theorem exists_stride (hkind : s.sequenceKind = .up ∨ s.sequenceKind = .down ∨ s.sequenceKind = .upDown ∨
    s.sequenceKind = .m3p5) (skipped : SkippedThrough draw s 8) :
    ∃ d ∈ ([1, 5, 7] : List (Fin nSteps)), ∀ k < 8, (chained draw s (k + 1)).1 = (chained draw s k).1 + d := by
  obtain h | h | h | h := hkind
  · exact ⟨1, by decide, fun k _ => by rw [chained, h, applyRule_up]⟩
  · exact ⟨7, by decide, fun k _ => by rw [chained, h, applyRule_down]⟩
  · refine ⟨if turnAtBoundary s.skipMask s.currentStep s.directionPhase then 1 else 7, ?_, fun k hk => ?_⟩
    · split <;> decide
    · rw [chained, h, applyRule_upDown, turnAtBoundary_chained h (skipped.mono hk.le)]
  · exact ⟨5, by decide, fun k _ => by rw [chained, h, applyRule_m3p5]⟩

/-- Eight moves by an odd stride visit all eight steps. -/
theorem odd_stride_covers : ∀ d ∈ ([1, 5, 7] : List (Fin nSteps)), ∀ c i : Fin nSteps,
    ∃ k < 8, c + (k + 1) • d = i := by
  decide

end

/-- Settles O47: with no commit in eight probes the stride would have visited the active step. -/
theorem activeStepIsAlwaysFound : Obligations.ActiveStepIsAlwaysFound := by
  intro s hkind ⟨i, active⟩
  refine ⟨_, exec_mstep s, ?_⟩
  by_cases skipped : SkippedThrough Config.draw s 8
  · obtain ⟨d, hd, stride⟩ := exists_stride hkind skipped
    have visited (k : Nat) (hk : k ≤ 8) : (chained Config.draw s k).1 = s.currentStep + k • d := by
      induction k with
      | zero => simp [chained]
      | succ k ih => rw [stride k hk, ih (Nat.le_of_succ_le hk), succ_nsmul, add_assoc]
    obtain ⟨k, hk, rfl⟩ := odd_stride_covers d hd s.currentStep i
    have passedOver := (skipped.mono hk).last
    simp only [visited (k + 1) hk, active, Bool.false_eq_true] at passedOver
  · obtain ⟨k, h1, h8, hk⟩ := exists_active_of_not_skippedThrough skipped
    exact advance_active_of_chained h1 h8 hk

/-! ### Sweeps with no step skipped -/

section
variable {draw : Nat → Fin nSteps} {s : State}

theorem advance_of_none_skipped (active : ∀ i : Fin nSteps, s.skipMask[i] = false) : advance draw s = probed draw s 1 :=
  advance_of_first_active (k := 0) (by decide) (fun _ h1 h0 => absurd (h1.trans h0) (by decide)) (active _)

/-- With no step skipped, `n` MSTEPs are `n` chained probes (R126). -/
theorem run_mstep_of_none_skipped (active : ∀ i : Fin nSteps, s.skipMask[i] = false) (n k : Nat) :
    run (List.replicate n .mstep) (probed Config.draw s k) = .next (probed Config.draw s (k + n)) := by
  induction n generalizing k with
  | zero => rfl
  | succ n ih =>
    have next : exec .mstep (probed Config.draw s k) = .next (probed Config.draw s (k + 1)) := by
      rw [exec_mstep, advance_of_none_skipped (by exact active), probed_succ]
    rw [List.replicate_succ, run_cons next, ih, Nat.add_right_comm, add_assoc]

/-- +2-1 from step 0 forward, probe by probe (R141 property 8). -/
theorem chained_p2m1 (hkind : s.sequenceKind = .p2m1) (hstep : s.currentStep = 0) (hph : s.directionPhase = true)
    (n : Nat) :
    (chained draw s n).1.val = (if n % 2 = 0 then n / 2 else n / 2 + 2) % 8 ∧
    (chained draw s n).2 = decide (n % 2 = 0) := by
  induction n with
  | zero => simp [chained, hstep, hph]
  | succ n ih =>
    obtain ⟨step, phase⟩ := ih
    rw [chained, hkind, applyRule_p2m1, step_val_add, step, phase]
    by_cases even : n % 2 = 0
    · rw [decide_eq_true even, if_pos even, if_neg (by omega : ¬ (n + 1) % 2 = 0)]
      refine ⟨?_, (decide_eq_false (by omega)).symm⟩
      change (_ + 2) % 8 = _
      omega
    · rw [decide_eq_false even, if_neg even, if_pos (by omega : (n + 1) % 2 = 0)]
      refine ⟨?_, (decide_eq_true (by omega)).symm⟩
      change (_ + 7) % 8 = _
      omega

/-- With no step skipped UpDown turns at 0 and at 7 (R136). -/
theorem turnAtBoundary_of_none_skipped {mask : Vector Bool nSteps} (active : ∀ i : Fin nSteps, mask[i] = false)
    (c : Fin nSteps) (ph : Bool) : turnAtBoundary mask c ph = if c = 7 then false else if c = 0 then true else ph := by
  have low : lowestActive mask = some 0 := lowestActive_eq_some_iff.mpr ⟨active 0, nofun⟩
  have high : highestActive mask = some 7 :=
    highestActive_eq_some_iff.mpr ⟨active 7, fun j hj => absurd (Fin.le_last j) hj.not_ge⟩
  simp only [turnAtBoundary, low, high, Option.some.injEq, eq_comm]

/-- UpDown from step 0 forward, probe by probe (R141 property 7). -/
theorem chained_upDown (hkind : s.sequenceKind = .upDown) (active : ∀ i : Fin nSteps, s.skipMask[i] = false)
    (hstep : s.currentStep = 0) (n : Nat) :
    (chained draw s n).1.val = (if n % 14 ≤ 7 then n % 14 else 14 - n % 14) ∧
    (n % 14 ≠ 0 → (chained draw s n).2 = decide (n % 14 ≤ 7)) := by
  induction n with
  | zero => simp [chained, hstep]
  | succ n ih =>
    obtain ⟨step, phase⟩ := ih
    have turn : turnAtBoundary s.skipMask (chained draw s n).1 (chained draw s n).2 = decide (n % 14 < 7) := by
      have top : (chained draw s n).1 = 7 ↔ n % 14 = 7 := by
        rw [Fin.ext_iff, step]
        change _ = 7 ↔ _
        split <;> omega
      have bottom : (chained draw s n).1 = 0 ↔ n % 14 = 0 := by
        rw [Fin.ext_iff, step]
        change _ = 0 ↔ _
        split <;> omega
      simp only [turnAtBoundary_of_none_skipped active, top, bottom]
      split_ifs with h7 h0
      · simp [h7]
      · simp [h0]
      · rw [phase h0, decide_eq_decide]
        omega
    rw [chained, hkind, applyRule_upDown, turn, step_val_add, step]
    by_cases rising : n % 14 < 7
    · have next : (n + 1) % 14 = n % 14 + 1 := by omega
      rw [next, decide_eq_true rising, if_pos rising.le, if_pos (Nat.succ_le_of_lt rising), if_pos rfl]
      exact ⟨Nat.mod_eq_of_lt (Nat.succ_lt_succ rising), fun _ => (decide_eq_true rising).symm⟩
    · rw [decide_eq_false rising]
      refine ⟨?_, fun h0 => (decide_eq_false (by omega)).symm⟩
      change (_ + 7) % 8 = _
      split_ifs <;> omega

end

/-- Settles O52: `n` MSTEPs are `n` probes, and the sweep turns at 0 and at 7. -/
theorem updownSweepsAllSteps : Obligations.UpdownSweepsAllSteps := by
  intro n s hkind active hstep _
  have reached := run_mstep_of_none_skipped active n 0
  rw [probed_zero, Nat.zero_add] at reached
  exact ⟨_, reached, (chained_upDown hkind active hstep n).1⟩

/-- Settles O53: `n` MSTEPs are `n` probes of two forth and one back. -/
theorem plusTwoMinusOneClimbs : Obligations.PlusTwoMinusOneClimbs := by
  intro n s hkind active hstep hph
  have reached := run_mstep_of_none_skipped active n 0
  rw [probed_zero, Nat.zero_add] at reached
  exact ⟨_, reached, (chained_p2m1 hkind hstep hph n).1⟩

/-! ### SETSKIP and SETSEQ -/

/-- Settles O54: the flag stands at its index of the mask, the others as they were. -/
theorem setskipWritesOneFlag : Obligations.SetskipWritesOneFlag := by
  refine fun k flag s => ⟨fun hk => ?decodes, fun hk => ?rejected, fun hk => ?written⟩
  case decodes => exact Instr.WellFormed.decode_encode (i := .setskip k flag) (decide_eq_true hk)
  case rejected => exact exec_eq_next_iff.mpr (.setskipRejected flag s (Nat.not_lt.mpr hk))
  case written =>
    have hlt : k < nSteps := Nat.lt_succ_of_le hk
    refine ⟨_, exec_eq_next_iff.mpr (.setskip flag s hlt), fun i => ?_⟩
    simp only [Fin.getElem_fin, Vector.getElem_set, eq_comm]

/-- The table of R120 up to its reserved slot. -/
theorem kindOf_of_lt : ∀ {k : Nat} (h : k < 7),
    kindOf k = some [.up, .down, .upDown, .random, .p2m1, .p1m2, .m3p5][k] := by
  decide

/-- Settles O55: the ordinals without a kind, the kind that stands, and any other. -/
theorem setseqChangesTheKind : Obligations.SetseqChangesTheKind := by
  refine fun k s => ⟨fun hk => ?decodes, fun hk => ?rejected, fun hk => ⟨fun same => ?same, fun other => ?changed⟩⟩
  case decodes => exact Instr.WellFormed.decode_encode (i := .setseq k) (decide_eq_true hk)
  case rejected => exact exec_eq_next_iff.mpr (.setseqRejected s ((kindOf_eq_none k).mpr hk))
  case same => exact exec_eq_next_iff.mpr (.setseqSame s (same ▸ kindOf_of_lt hk))
  case changed => exact exec_eq_next_iff.mpr (.setseq s (kindOf_of_lt hk) other.symm)

/-! ### A square wave with no edge -/

/-- A square wave of duty 0 or 1 that has no rising edge left to make (R128). -/
def QuietSquare (s : State) : Prop :=
  s.params.InRange ∧ s.shape = .square ∧
  (s.dutyCycle = 0 ∨ (s.dutyCycle = 1 ∧ ∀ q, s.prevSample = some q → s.params.edgeTh ≤ q))

theorem wave_square_constant {d p : Rat} (eps : Rat) (hd : d = 0 ∨ d = 1) (h0 : 0 ≤ p) (h1 : p < 1) :
    wave eps .square p d = d := by
  obtain rfl | rfl := hd
  · exact if_neg h0.not_gt
  · exact if_pos h1

/-- A constant square emits its own duty (R81). -/
theorem sampleEmitted_prevSample_of_constant (sr : Rat) {s : State} (hshape : s.shape = .square)
    (hduty : s.dutyCycle = 0 ∨ s.dutyCycle = 1) : (sampleEmitted sr s).prevSample = some s.dutyCycle := by
  rw [sampleEmitted_eq, hshape, wave_square_constant _ hduty (frac_nonneg _) (frac_lt_one _)]
  rfl

section
variable {s : State} (h : QuietSquare s)
include h

theorem QuietSquare.emits_duty (sr : Rat) : (sampleEmitted sr s).prevSample = some s.dutyCycle := by
  obtain ⟨-, hshape, hduty⟩ := h
  exact sampleEmitted_prevSample_of_constant sr hshape (hduty.imp_right And.left)

/-- Either the sample is below the threshold, or the one before it was not (R128). -/
theorem QuietSquare.no_edge : risingEdge s.params.edgeTh s.prevSample s.dutyCycle = false := by
  obtain ⟨⟨-, hth, -⟩, -, hzero | ⟨-, hprev⟩⟩ := h <;> rw [Bool.eq_false_iff, ne_eq, risingEdge_iff]
  · rintro ⟨-, hle⟩
    exact hth.not_ge (hzero ▸ hle)
  · rintro ⟨⟨q, hq, hlt⟩, -⟩
    exact hlt.not_ge (hprev q hq)

theorem QuietSquare.sample_eq (draw : Nat → Fin nSteps) (sr : Rat) : sample draw sr s = sampleEmitted sr s := by
  rw [sample_eq_ite draw sr s (h.emits_duty sr), h.no_edge, if_neg fun fires => Bool.false_ne_true fires.1]

theorem QuietSquare.sampleEmitted (sr : Rat) : QuietSquare (sampleEmitted sr s) := by
  have emitted := h.emits_duty sr
  obtain ⟨hparams, hshape, hduty⟩ := h
  rw [sampleEmitted_frame] at emitted ⊢
  refine ⟨hparams, hshape, hduty.imp_right fun ⟨hone, _⟩ => ⟨hone, fun q hq => ?_⟩⟩
  obtain rfl : s.dutyCycle = q := Option.some.inj (emitted.symm.trans hq)
  exact hone ▸ hparams.2.2

end

/-- The sequencer stands at the step, direction and count of draws of `s₀`. -/
def SequencerHeld (s₀ s : State) : Prop :=
  s.currentStep = s₀.currentStep ∧ s.directionPhase = s₀.directionPhase ∧ s.drawCount = s₀.drawCount

/-- Settles O33: along the buffer the square stays quiet and the sequencer stands. -/
theorem constantSquareNeverAdvances : Obligations.ConstantSquareNeverAdvances := by
  intro sr n s hparams hshape hduty
  obtain ⟨t, ht, hx⟩ := exec_executes (.gen sr n) s
  refine ⟨t, ht, ?_⟩
  cases hx with
  | genIgnored => exact ⟨rfl, rfl, rfl⟩
  | gen _ _ _ =>
    have kept (u : State) : QuietSquare u ∧ SequencerHeld s u →
        QuietSquare (sample Config.draw sr u) ∧ SequencerHeld s (sample Config.draw sr u) := by
      rintro ⟨quiet, held⟩
      rw [quiet.sample_eq]
      exact ⟨quiet.sampleEmitted sr, (by rw [sampleEmitted_frame]; exact held)⟩
    obtain ⟨-, held⟩ := generate_keeps Config.draw sr kept n s ⟨⟨hparams, hshape, hduty⟩, rfl, rfl, rfl⟩
    exact held

end Sys2Proof.Machine

namespace Sys2Proof.Machine

/-! ### Completion of every command -/

@[simp] theorem onPulse_params (t : Rat) (s : State) : (onPulse t s).params = s.params := by rw [onPulse_frame]

/-- No command writes the open parameters (R38). -/
theorem Executes.params_eq {i : Instr} {s t : State} (hx : Executes i s t) : t.params = s.params := by
  cases hx with
  | gen n s _ => exact generate_params ..
  | pulse q s => exact onPulse_params ..
  | gate s _ | mstep s => exact advance_params ..
  | _ => rfl

/-- Settles O12: every command completes, and what it executes writes neither the port nor the parameters. -/
theorem noCommandStopsTheMachine : Obligations.NoCommandStopsTheMachine := by
  intro i s
  obtain ⟨t, ht, hx⟩ := exec_executes i s
  exact ⟨t, ht, hx.port_eq, hx.params_eq⟩

end Sys2Proof.Machine

namespace Sys2Proof.Machine

/-! ### SET commands of different rows -/

/-- The state `s` with the registers that the SET command of row `o` writes (R20) taken from `t`. -/
def State.takeRow (o : Opcode) (t s : State) : State := { s with
  freeRunHz := if o = .setfreq then t.freeRunHz else s.freeRunHz
  dutyCycle := if o = .setduty then t.dutyCycle else s.dutyCycle
  shape := if o = .setshape then t.shape else s.shape
  phase := if o = .setphase then t.phase else s.phase
  range := if o = .setrange then t.range else s.range
  ratioIndex := if o = .setratio then t.ratioIndex else s.ratioIndex
  extClockEn := if o = .setxclk then t.extClockEn else s.extClockEn
  skipMask := if o = .setskip then t.skipMask else s.skipMask
  sequenceKind := if o = .setseq then t.sequenceKind else s.sequenceKind
  directionPhase := if o = .setseq then t.directionPhase else s.directionPhase
  trigSel := if o = .settrig then t.trigSel else s.trigSel }

@[simp] theorem State.takeRow_self (o : Opcode) (s : State) : s.takeRow o s = s := by
  simp only [State.takeRow, ite_self]

/-- No register belongs to two rows, so the rows of two states may be taken in either order. -/
theorem State.takeRow_comm {o o' : Opcode} (hne : o ≠ o') (t u s : State) :
    t.takeRow o (u.takeRow o' s) = u.takeRow o' (t.takeRow o s) := by
  have apart (row : Opcode) (h : o = row) : o' ≠ row := fun h' => hne (h.trans h'.symm)
  unfold State.takeRow
  congr 1 <;> exact ite_ite_comm _ _ _ _ (apart _)

section
variable {i : Instr} {s t : State} (hx : Executes i s t) (hset : isSetCommand i = true)
include hx hset

/-- A SET command writes no register outside its row. -/
theorem Executes.eq_takeRow : t = t.takeRow i.opcode s := by
  cases hx with
  | gen | genIgnored | pulse | gate | gateIgnored | mstep => cases hset
  | _ => rfl

/-- A SET command reads no register outside its row: it does the same to the row in any other state `r`. -/
theorem Executes.takeRow (r : State) : Executes i (s.takeRow i.opcode r) (t.takeRow i.opcode r) := by
  cases hx with
  | setfreq q s => exact .setfreq q (s.takeRow .setfreq r)
  | setduty q s => exact .setduty q (s.takeRow .setduty r)
  | setshape sel s => exact .setshape sel (s.takeRow .setshape r)
  | setphase q s => exact .setphase q (s.takeRow .setphase r)
  | setrange sel s => exact .setrange sel (s.takeRow .setrange r)
  | setratio k s => exact .setratio k (s.takeRow .setratio r)
  | setxclk sel s => exact .setxclk sel (s.takeRow .setxclk r)
  | setskip flag s h => exact .setskip flag (s.takeRow .setskip r) h
  | setskipRejected flag s h => exact .setskipRejected flag (s.takeRow .setskip r) h
  | setseq s named other => exact .setseq (s.takeRow .setseq r) named other
  | setseqSame s named => exact .setseqSame (s.takeRow .setseq r) named
  | setseqRejected s unnamed => exact .setseqRejected (s.takeRow .setseq r) unnamed
  | settrig sel s => exact .settrig sel (s.takeRow .settrig r)
  | gen | genIgnored | pulse | gate | gateIgnored | mstep => cases hset

/-- A SET command executed after one of another row still does to its own row what it did before it. -/
theorem Executes.after_other_row {j : Instr} {u : State} (hy : Executes j s u) (hset' : isSetCommand j = true)
    (hne : i.opcode ≠ j.opcode) : Executes i u (t.takeRow i.opcode u) := by
  have kept : s.takeRow i.opcode u = u := by
    rw [hy.eq_takeRow hset', State.takeRow_comm hne, State.takeRow_self]
  simpa only [kept] using hx.takeRow hset u

end

/-- Settles O57: in either order each command writes its row as it would from the first state. -/
theorem setCommandsCommute : Obligations.SetCommandsCommute := by
  intro i j s hi hj hne
  obtain ⟨t, ht, hx⟩ := exec_executes i s
  obtain ⟨u, hu, hy⟩ := exec_executes j s
  have same : t.takeRow i.opcode u = u.takeRow j.opcode t :=
    calc t.takeRow i.opcode u
      _ = t.takeRow i.opcode (u.takeRow j.opcode s) := by rw [← hy.eq_takeRow hj]
      _ = u.takeRow j.opcode (t.takeRow i.opcode s) := State.takeRow_comm hne t u s
      _ = u.takeRow j.opcode t := by rw [← hx.eq_takeRow hi]
  have iThenJ := exec_eq_next_iff.mpr (hy.after_other_row hj hx hi hne.symm)
  have jThenI := exec_eq_next_iff.mpr (hx.after_other_row hi hy hj hne)
  exact ⟨_, by rw [run_cons ht, run_cons iThenJ, run_nil], by rw [run_cons hu, run_cons jThenI, run_nil, same]⟩

end Sys2Proof.Machine
